-- ==== Sys2Proof/Word.lean ====
section
/-! DEFINITION. The two word types of the core: a byte (data width 8, 00_scope.md R5) and a word (address width 16, R6). Their byte-order and bit-field helpers are in Machine/Bits.lean. -/

namespace Sys2Proof

/-- A byte: the data width is 8 bits (R5). Port numbers are bytes too (R7). -/
abbrev Byte := BitVec 8

/-- A word: the address width is 16 bits (R6). -/
abbrev Word := BitVec 16

end Sys2Proof
end

