-- ==== Sys2Proof/Machine/Bits.lean ====
section
/-! DEFINITION. Bit-field and byte-order helpers of 00_scope.md section 5: hi8, lo8, cat16, popcount, parity, and the fields of the opcode byte (30_encoding.md R82). -/

namespace Sys2Proof.Machine

/-- `hi8(w) = w[15:8]`. -/
def hi8 (w : Word) : Byte := w.extractLsb' 8 8

/-- `lo8(w) = w[7:0]`. -/
def lo8 (w : Word) : Byte := w.extractLsb' 0 8

/-- `cat16(h, l) = h*256 + l`. -/
def cat16 (h l : Byte) : Word := h ++ l

/-- The number of 1 bits of a byte. -/
def popcount (v : Byte) : Nat := ((List.range 8).filter fun i => v.getLsbD i).length

/-- `parity(v)` is 1 when `popcount(v)` is even. -/
def parity (v : Byte) : Bool := popcount v % 2 == 0

/-- The major group `gg`, bits 7:6 of the opcode byte (R82). -/
def fieldGg (op : Byte) : Fin 4 := (op.extractLsb' 6 2).toFin

/-- Bits 5:3 of the opcode byte: `ddd`, `aaa`, `ccc` or `nnn` (R82). -/
def fieldDdd (op : Byte) : Fin 8 := (op.extractLsb' 3 3).toFin

/-- Bits 2:0 of the opcode byte: `sss` (R82). -/
def fieldSss (op : Byte) : Fin 8 := (op.extractLsb' 0 3).toFin

/-- Bits 5:4 of the opcode byte: `pp` (R82). -/
def fieldPp (op : Byte) : Fin 4 := (op.extractLsb' 4 2).toFin

/-- Bit 3 of the opcode byte: `q` (R82). -/
def fieldQ (op : Byte) : Bool := op.getLsbD 3

end Sys2Proof.Machine
end

