-- ==== Sys2Proof/Syntax.lean ====
section
/-! DEFINITION. The syntax, whole: the operand names of 30_encoding.md R83 to R86; Instr, one constructor per row of spec/opcode_table.json (the opcode map, R92); and Form, one constructor per instruction rule of 41 to 45 and 60, with the rule's operands. Decode.lean relates the two views, which correspond one to one. -/

namespace Sys2Proof

/-- The seven 8-bit registers that a 3-bit operand field can name (R83); code 110 is M, which has forms of its own. -/
inductive Reg where
  | b | c | d | e | h | l | a
  deriving DecidableEq, Repr

/-- The pairs of LXI, INX, DCX and DAD (R84). -/
inductive Pair where
  | bc | de | hl | sp
  deriving DecidableEq, Repr

/-- The pairs of PUSH rp and POP rp (R84); PSW has forms of its own. -/
inductive StackPair where
  | bc | de | hl
  deriving DecidableEq, Repr

/-- The pairs of LDAX and STAX (R84). -/
inductive IndexPair where
  | bc | de
  deriving DecidableEq, Repr

/-- The conditions of a 3-bit `ccc` field, by suffix (R85). -/
inductive Cond where
  | nz | z | nc | c | po | pe | p | m
  deriving DecidableEq, Repr

/-- The operations of a 3-bit `aaa` field (R86). -/
inductive AluOp where
  | add | adc | sub | sbb | ana | xra | ora | cmp
  deriving DecidableEq, Repr

/-- The twelve undefined opcode values (R89). -/
inductive UndefOp where
  | u08 | u10 | u18 | u20 | u28 | u30 | u38 | uCB | uD9 | uDD | uED | uFD
  deriving DecidableEq, Repr

/-- The instructions: one constructor per row of the opcode table: first the rows with an immediate
(d8, d16 or a16; R88), which is the constructor's argument, then the one-byte rows, each in the table's order. -/
inductive Instr where
  | lxiB (d16 : Word) | mviB (d8 : Byte) | mviC (d8 : Byte) | lxiD (d16 : Word) | mviD (d8 : Byte) | mviE (d8 : Byte) | lxiH (d16 : Word) | shld (a16 : Word)
  | mviH (d8 : Byte) | lhld (a16 : Word) | mviL (d8 : Byte) | lxiSp (d16 : Word) | sta (a16 : Word) | mviM (d8 : Byte) | lda (a16 : Word) | mviA (d8 : Byte)
  | jnz (a16 : Word) | jmp (a16 : Word) | cnz (a16 : Word) | adi (d8 : Byte) | jz (a16 : Word) | cz (a16 : Word) | call (a16 : Word) | aci (d8 : Byte)
  | jnc (a16 : Word) | outPort (d8 : Byte) | cnc (a16 : Word) | sui (d8 : Byte) | jc (a16 : Word) | inPort (d8 : Byte) | cc (a16 : Word) | sbi (d8 : Byte)
  | jpo (a16 : Word) | cpo (a16 : Word) | ani (d8 : Byte) | jpe (a16 : Word) | cpe (a16 : Word) | xri (d8 : Byte) | jp (a16 : Word) | cp (a16 : Word)
  | ori (d8 : Byte) | jm (a16 : Word) | cm (a16 : Word) | cpi (d8 : Byte) | nop | staxB | inxB | inrB
  | dcrB | rlc | undef08 | dadB | ldaxB | dcxB | inrC | dcrC
  | rrc | undef10 | staxD | inxD | inrD | dcrD | ral | undef18
  | dadD | ldaxD | dcxD | inrE | dcrE | rar | undef20 | inxH
  | inrH | dcrH | daa | undef28 | dadH | dcxH | inrL | dcrL
  | cma | undef30 | inxSp | inrM | dcrM | stc | undef38 | dadSp
  | dcxSp | inrA | dcrA | cmc | movBB | movBC | movBD | movBE
  | movBH | movBL | movBM | movBA | movCB | movCC | movCD | movCE
  | movCH | movCL | movCM | movCA | movDB | movDC | movDD | movDE
  | movDH | movDL | movDM | movDA | movEB | movEC | movED | movEE
  | movEH | movEL | movEM | movEA | movHB | movHC | movHD | movHE
  | movHH | movHL | movHM | movHA | movLB | movLC | movLD | movLE
  | movLH | movLL | movLM | movLA | movMB | movMC | movMD | movME
  | movMH | movML | hlt | movMA | movAB | movAC | movAD | movAE
  | movAH | movAL | movAM | movAA | addB | addC | addD | addE
  | addH | addL | addM | addA | adcB | adcC | adcD | adcE
  | adcH | adcL | adcM | adcA | subB | subC | subD | subE
  | subH | subL | subM | subA | sbbB | sbbC | sbbD | sbbE
  | sbbH | sbbL | sbbM | sbbA | anaB | anaC | anaD | anaE
  | anaH | anaL | anaM | anaA | xraB | xraC | xraD | xraE
  | xraH | xraL | xraM | xraA | oraB | oraC | oraD | oraE
  | oraH | oraL | oraM | oraA | cmpB | cmpC | cmpD | cmpE
  | cmpH | cmpL | cmpM | cmpA | rnz | popB | pushB | rst0
  | rz | ret | undefCB | rst1 | rnc | popD | pushD | rst2
  | rc | undefD9 | undefDD | rst3 | rpo | popH | xthl | pushH
  | rst4 | rpe | pchl | xchg | undefED | rst5 | rp | popPsw
  | di | pushPsw | rst6 | rm | sphl | ei | undefFD | rst7
  deriving DecidableEq, Repr

/-- The instructions by rule: one constructor per instruction rule (R120 to R241), its operands as the
rule names them, and one for the undefined opcode values (R252, R253). -/
inductive Form where
  /-- MOV r1,r2 (R120) -/
  | movRR (dst src : Reg)
  /-- MOV r,M (R121) -/
  | movRM (dst : Reg)
  /-- MOV M,r (R122) -/
  | movMR (src : Reg)
  /-- MVI r,d8 (R123) -/
  | mviR (dst : Reg) (d8 : Byte)
  /-- MVI M,d8 (R124) -/
  | mviM (d8 : Byte)
  /-- LXI rp,d16 (R125) -/
  | lxi (rp : Pair) (d16 : Word)
  /-- LDA a16 (R126) -/
  | lda (a16 : Word)
  /-- STA a16 (R127) -/
  | sta (a16 : Word)
  /-- LHLD a16 (R128) -/
  | lhld (a16 : Word)
  /-- SHLD a16 (R129) -/
  | shld (a16 : Word)
  /-- LDAX rp (R130) -/
  | ldax (rp : IndexPair)
  /-- STAX rp (R131) -/
  | stax (rp : IndexPair)
  /-- XCHG (R132) -/
  | xchg
  /-- ADD, ADC, SUB, SBB, ANA, XRA, ORA, CMP r (R140, R143, R146, R149, R170, R173, R176, R179) -/
  | aluR (op : AluOp) (src : Reg)
  /-- the same operations on M (R141, R144, R147, R150, R171, R174, R177, R180) -/
  | aluM (op : AluOp)
  /-- ADI, ACI, SUI, SBI, ANI, XRI, ORI, CPI d8 (R142, R145, R148, R151, R172, R175, R178, R181) -/
  | aluI (op : AluOp) (d8 : Byte)
  /-- INR r (R152) -/
  | inrR (r : Reg)
  /-- INR M (R153) -/
  | inrM
  /-- DCR r (R154) -/
  | dcrR (r : Reg)
  /-- DCR M (R155) -/
  | dcrM
  /-- INX rp (R156) -/
  | inx (rp : Pair)
  /-- DCX rp (R157) -/
  | dcx (rp : Pair)
  /-- DAD rp (R158) -/
  | dad (rp : Pair)
  /-- DAA (R159) -/
  | daa
  /-- RLC, RRC, RAL, RAR (R182 to R185) -/
  | rlc | rrc | ral | rar
  /-- CMA, CMC, STC (R186 to R188) -/
  | cma | cmc | stc
  /-- JMP a16 (R200) -/
  | jmp (a16 : Word)
  /-- Jccc a16 (R201) -/
  | jcc (ccc : Cond) (a16 : Word)
  /-- PCHL (R207) -/
  | pchl
  /-- CALL a16 (R202) -/
  | call (a16 : Word)
  /-- Cccc a16 (R203) -/
  | ccc (ccc : Cond) (a16 : Word)
  /-- RET (R204) -/
  | ret
  /-- Rccc (R205) -/
  | rcc (ccc : Cond)
  /-- RST n (R206) -/
  | rst (n : Fin 8)
  /-- PUSH rp (R230) -/
  | push (rp : StackPair)
  /-- PUSH PSW (R231) -/
  | pushPsw
  /-- POP rp (R232) -/
  | pop (rp : StackPair)
  /-- POP PSW (R233) -/
  | popPsw
  /-- XTHL (R234) -/
  | xthl
  /-- SPHL (R235) -/
  | sphl
  /-- IN d8 (R236) -/
  | inPort (port : Byte)
  /-- OUT d8 (R237) -/
  | outPort (port : Byte)
  /-- EI, DI (R238, R239) -/
  | ei | di
  /-- HLT (R240) -/
  | hlt
  /-- NOP (R241) -/
  | nop
  /-- one of the twelve undefined opcode values (R252, R253) -/
  | undef (u : UndefOp)
  deriving DecidableEq, Repr

end Sys2Proof
end

