-- ==== Sys2Proof/WellFormed.lean ====
section
/-! DEFINITION. Which instructions a program may hold: the 244 documented Intel 8080 opcode values (00_scope.md R2, 30_encoding.md R89). Every operand of every documented form is a defined operand, whatever its value (R89), and the operand types admit no other, so this is the one check there is. -/

namespace Sys2Proof

/-- The instruction is one of the 244 documented ones: not one of the twelve undefined opcode values.
DESIGN CHOICE (log entry 14, safe): the machine gives the twelve a meaning too (R252, R253), and no
statement about the machine leaves them out by this check. -/
def Instr.wellFormed : Instr → Bool
  | .undef08 | .undef10 | .undef18 | .undef20 | .undef28 | .undef30 | .undef38 | .undefCB | .undefD9 | .undefDD
  | .undefED | .undefFD => false
  | .nop | .lxiB _ | .staxB | .inxB | .inrB | .dcrB | .mviB _ | .rlc | .dadB | .ldaxB
  | .dcxB | .inrC | .dcrC | .mviC _ | .rrc | .lxiD _ | .staxD | .inxD | .inrD | .dcrD
  | .mviD _ | .ral | .dadD | .ldaxD | .dcxD | .inrE | .dcrE | .mviE _ | .rar | .lxiH _
  | .shld _ | .inxH | .inrH | .dcrH | .mviH _ | .daa | .dadH | .lhld _ | .dcxH | .inrL
  | .dcrL | .mviL _ | .cma | .lxiSp _ | .sta _ | .inxSp | .inrM | .dcrM | .mviM _ | .stc
  | .dadSp | .lda _ | .dcxSp | .inrA | .dcrA | .mviA _ | .cmc | .movBB | .movBC | .movBD
  | .movBE | .movBH | .movBL | .movBM | .movBA | .movCB | .movCC | .movCD | .movCE | .movCH
  | .movCL | .movCM | .movCA | .movDB | .movDC | .movDD | .movDE | .movDH | .movDL | .movDM
  | .movDA | .movEB | .movEC | .movED | .movEE | .movEH | .movEL | .movEM | .movEA | .movHB
  | .movHC | .movHD | .movHE | .movHH | .movHL | .movHM | .movHA | .movLB | .movLC | .movLD
  | .movLE | .movLH | .movLL | .movLM | .movLA | .movMB | .movMC | .movMD | .movME | .movMH
  | .movML | .hlt | .movMA | .movAB | .movAC | .movAD | .movAE | .movAH | .movAL | .movAM
  | .movAA | .addB | .addC | .addD | .addE | .addH | .addL | .addM | .addA | .adcB
  | .adcC | .adcD | .adcE | .adcH | .adcL | .adcM | .adcA | .subB | .subC | .subD
  | .subE | .subH | .subL | .subM | .subA | .sbbB | .sbbC | .sbbD | .sbbE | .sbbH
  | .sbbL | .sbbM | .sbbA | .anaB | .anaC | .anaD | .anaE | .anaH | .anaL | .anaM
  | .anaA | .xraB | .xraC | .xraD | .xraE | .xraH | .xraL | .xraM | .xraA | .oraB
  | .oraC | .oraD | .oraE | .oraH | .oraL | .oraM | .oraA | .cmpB | .cmpC | .cmpD
  | .cmpE | .cmpH | .cmpL | .cmpM | .cmpA | .rnz | .popB | .jnz _ | .jmp _ | .cnz _
  | .pushB | .adi _ | .rst0 | .rz | .ret | .jz _ | .cz _ | .call _ | .aci _ | .rst1
  | .rnc | .popD | .jnc _ | .outPort _ | .cnc _ | .pushD | .sui _ | .rst2 | .rc | .jc _
  | .inPort _ | .cc _ | .sbi _ | .rst3 | .rpo | .popH | .jpo _ | .xthl | .cpo _ | .pushH
  | .ani _ | .rst4 | .rpe | .pchl | .jpe _ | .xchg | .cpe _ | .xri _ | .rst5 | .rp
  | .popPsw | .jp _ | .di | .cp _ | .pushPsw | .ori _ | .rst6 | .rm | .sphl | .jm _
  | .ei | .cm _ | .cpi _ | .rst7 => true

end Sys2Proof
end

