-- ==== Sys2Proof/Decode.lean ====
section
/-! DEFINITION. The decoder, total on any bytes, from the fields and bit patterns of 30_encoding.md R80 to R90; then the encoder, from the opcode map R92 and opcode_table.json. The two are written from different tables of the spec, so that their agreement says something. -/

namespace Sys2Proof

open Machine

/-! ### The two views of an instruction -/

/-- The row of the opcode table that an instruction of a rule stands in. -/
def Form.instr : Form → Instr
  | .nop => .nop
  | .lxi .bc d16 => .lxiB d16
  | .stax .bc => .staxB
  | .inx .bc => .inxB
  | .inrR .b => .inrB
  | .dcrR .b => .dcrB
  | .mviR .b d8 => .mviB d8
  | .rlc => .rlc
  | .undef .u08 => .undef08
  | .dad .bc => .dadB
  | .ldax .bc => .ldaxB
  | .dcx .bc => .dcxB
  | .inrR .c => .inrC
  | .dcrR .c => .dcrC
  | .mviR .c d8 => .mviC d8
  | .rrc => .rrc
  | .undef .u10 => .undef10
  | .lxi .de d16 => .lxiD d16
  | .stax .de => .staxD
  | .inx .de => .inxD
  | .inrR .d => .inrD
  | .dcrR .d => .dcrD
  | .mviR .d d8 => .mviD d8
  | .ral => .ral
  | .undef .u18 => .undef18
  | .dad .de => .dadD
  | .ldax .de => .ldaxD
  | .dcx .de => .dcxD
  | .inrR .e => .inrE
  | .dcrR .e => .dcrE
  | .mviR .e d8 => .mviE d8
  | .rar => .rar
  | .undef .u20 => .undef20
  | .lxi .hl d16 => .lxiH d16
  | .shld a16 => .shld a16
  | .inx .hl => .inxH
  | .inrR .h => .inrH
  | .dcrR .h => .dcrH
  | .mviR .h d8 => .mviH d8
  | .daa => .daa
  | .undef .u28 => .undef28
  | .dad .hl => .dadH
  | .lhld a16 => .lhld a16
  | .dcx .hl => .dcxH
  | .inrR .l => .inrL
  | .dcrR .l => .dcrL
  | .mviR .l d8 => .mviL d8
  | .cma => .cma
  | .undef .u30 => .undef30
  | .lxi .sp d16 => .lxiSp d16
  | .sta a16 => .sta a16
  | .inx .sp => .inxSp
  | .inrM => .inrM
  | .dcrM => .dcrM
  | .mviM d8 => .mviM d8
  | .stc => .stc
  | .undef .u38 => .undef38
  | .dad .sp => .dadSp
  | .lda a16 => .lda a16
  | .dcx .sp => .dcxSp
  | .inrR .a => .inrA
  | .dcrR .a => .dcrA
  | .mviR .a d8 => .mviA d8
  | .cmc => .cmc
  | .movRR .b .b => .movBB
  | .movRR .b .c => .movBC
  | .movRR .b .d => .movBD
  | .movRR .b .e => .movBE
  | .movRR .b .h => .movBH
  | .movRR .b .l => .movBL
  | .movRM .b => .movBM
  | .movRR .b .a => .movBA
  | .movRR .c .b => .movCB
  | .movRR .c .c => .movCC
  | .movRR .c .d => .movCD
  | .movRR .c .e => .movCE
  | .movRR .c .h => .movCH
  | .movRR .c .l => .movCL
  | .movRM .c => .movCM
  | .movRR .c .a => .movCA
  | .movRR .d .b => .movDB
  | .movRR .d .c => .movDC
  | .movRR .d .d => .movDD
  | .movRR .d .e => .movDE
  | .movRR .d .h => .movDH
  | .movRR .d .l => .movDL
  | .movRM .d => .movDM
  | .movRR .d .a => .movDA
  | .movRR .e .b => .movEB
  | .movRR .e .c => .movEC
  | .movRR .e .d => .movED
  | .movRR .e .e => .movEE
  | .movRR .e .h => .movEH
  | .movRR .e .l => .movEL
  | .movRM .e => .movEM
  | .movRR .e .a => .movEA
  | .movRR .h .b => .movHB
  | .movRR .h .c => .movHC
  | .movRR .h .d => .movHD
  | .movRR .h .e => .movHE
  | .movRR .h .h => .movHH
  | .movRR .h .l => .movHL
  | .movRM .h => .movHM
  | .movRR .h .a => .movHA
  | .movRR .l .b => .movLB
  | .movRR .l .c => .movLC
  | .movRR .l .d => .movLD
  | .movRR .l .e => .movLE
  | .movRR .l .h => .movLH
  | .movRR .l .l => .movLL
  | .movRM .l => .movLM
  | .movRR .l .a => .movLA
  | .movMR .b => .movMB
  | .movMR .c => .movMC
  | .movMR .d => .movMD
  | .movMR .e => .movME
  | .movMR .h => .movMH
  | .movMR .l => .movML
  | .hlt => .hlt
  | .movMR .a => .movMA
  | .movRR .a .b => .movAB
  | .movRR .a .c => .movAC
  | .movRR .a .d => .movAD
  | .movRR .a .e => .movAE
  | .movRR .a .h => .movAH
  | .movRR .a .l => .movAL
  | .movRM .a => .movAM
  | .movRR .a .a => .movAA
  | .aluR .add .b => .addB
  | .aluR .add .c => .addC
  | .aluR .add .d => .addD
  | .aluR .add .e => .addE
  | .aluR .add .h => .addH
  | .aluR .add .l => .addL
  | .aluM .add => .addM
  | .aluR .add .a => .addA
  | .aluR .adc .b => .adcB
  | .aluR .adc .c => .adcC
  | .aluR .adc .d => .adcD
  | .aluR .adc .e => .adcE
  | .aluR .adc .h => .adcH
  | .aluR .adc .l => .adcL
  | .aluM .adc => .adcM
  | .aluR .adc .a => .adcA
  | .aluR .sub .b => .subB
  | .aluR .sub .c => .subC
  | .aluR .sub .d => .subD
  | .aluR .sub .e => .subE
  | .aluR .sub .h => .subH
  | .aluR .sub .l => .subL
  | .aluM .sub => .subM
  | .aluR .sub .a => .subA
  | .aluR .sbb .b => .sbbB
  | .aluR .sbb .c => .sbbC
  | .aluR .sbb .d => .sbbD
  | .aluR .sbb .e => .sbbE
  | .aluR .sbb .h => .sbbH
  | .aluR .sbb .l => .sbbL
  | .aluM .sbb => .sbbM
  | .aluR .sbb .a => .sbbA
  | .aluR .ana .b => .anaB
  | .aluR .ana .c => .anaC
  | .aluR .ana .d => .anaD
  | .aluR .ana .e => .anaE
  | .aluR .ana .h => .anaH
  | .aluR .ana .l => .anaL
  | .aluM .ana => .anaM
  | .aluR .ana .a => .anaA
  | .aluR .xra .b => .xraB
  | .aluR .xra .c => .xraC
  | .aluR .xra .d => .xraD
  | .aluR .xra .e => .xraE
  | .aluR .xra .h => .xraH
  | .aluR .xra .l => .xraL
  | .aluM .xra => .xraM
  | .aluR .xra .a => .xraA
  | .aluR .ora .b => .oraB
  | .aluR .ora .c => .oraC
  | .aluR .ora .d => .oraD
  | .aluR .ora .e => .oraE
  | .aluR .ora .h => .oraH
  | .aluR .ora .l => .oraL
  | .aluM .ora => .oraM
  | .aluR .ora .a => .oraA
  | .aluR .cmp .b => .cmpB
  | .aluR .cmp .c => .cmpC
  | .aluR .cmp .d => .cmpD
  | .aluR .cmp .e => .cmpE
  | .aluR .cmp .h => .cmpH
  | .aluR .cmp .l => .cmpL
  | .aluM .cmp => .cmpM
  | .aluR .cmp .a => .cmpA
  | .rcc .nz => .rnz
  | .pop .bc => .popB
  | .jcc .nz a16 => .jnz a16
  | .jmp a16 => .jmp a16
  | .ccc .nz a16 => .cnz a16
  | .push .bc => .pushB
  | .aluI .add d8 => .adi d8
  | .rst 0 => .rst0
  | .rcc .z => .rz
  | .ret => .ret
  | .jcc .z a16 => .jz a16
  | .undef .uCB => .undefCB
  | .ccc .z a16 => .cz a16
  | .call a16 => .call a16
  | .aluI .adc d8 => .aci d8
  | .rst 1 => .rst1
  | .rcc .nc => .rnc
  | .pop .de => .popD
  | .jcc .nc a16 => .jnc a16
  | .outPort d8 => .outPort d8
  | .ccc .nc a16 => .cnc a16
  | .push .de => .pushD
  | .aluI .sub d8 => .sui d8
  | .rst 2 => .rst2
  | .rcc .c => .rc
  | .undef .uD9 => .undefD9
  | .jcc .c a16 => .jc a16
  | .inPort d8 => .inPort d8
  | .ccc .c a16 => .cc a16
  | .undef .uDD => .undefDD
  | .aluI .sbb d8 => .sbi d8
  | .rst 3 => .rst3
  | .rcc .po => .rpo
  | .pop .hl => .popH
  | .jcc .po a16 => .jpo a16
  | .xthl => .xthl
  | .ccc .po a16 => .cpo a16
  | .push .hl => .pushH
  | .aluI .ana d8 => .ani d8
  | .rst 4 => .rst4
  | .rcc .pe => .rpe
  | .pchl => .pchl
  | .jcc .pe a16 => .jpe a16
  | .xchg => .xchg
  | .ccc .pe a16 => .cpe a16
  | .undef .uED => .undefED
  | .aluI .xra d8 => .xri d8
  | .rst 5 => .rst5
  | .rcc .p => .rp
  | .popPsw => .popPsw
  | .jcc .p a16 => .jp a16
  | .di => .di
  | .ccc .p a16 => .cp a16
  | .pushPsw => .pushPsw
  | .aluI .ora d8 => .ori d8
  | .rst 6 => .rst6
  | .rcc .m => .rm
  | .sphl => .sphl
  | .jcc .m a16 => .jm a16
  | .ei => .ei
  | .ccc .m a16 => .cm a16
  | .undef .uFD => .undefFD
  | .aluI .cmp d8 => .cpi d8
  | .rst 7 => .rst7

/-- The rule and operands of a row of the opcode table. -/
def Instr.form : Instr → Form
  | .nop => .nop
  | .lxiB d16 => .lxi .bc d16
  | .staxB => .stax .bc
  | .inxB => .inx .bc
  | .inrB => .inrR .b
  | .dcrB => .dcrR .b
  | .mviB d8 => .mviR .b d8
  | .rlc => .rlc
  | .undef08 => .undef .u08
  | .dadB => .dad .bc
  | .ldaxB => .ldax .bc
  | .dcxB => .dcx .bc
  | .inrC => .inrR .c
  | .dcrC => .dcrR .c
  | .mviC d8 => .mviR .c d8
  | .rrc => .rrc
  | .undef10 => .undef .u10
  | .lxiD d16 => .lxi .de d16
  | .staxD => .stax .de
  | .inxD => .inx .de
  | .inrD => .inrR .d
  | .dcrD => .dcrR .d
  | .mviD d8 => .mviR .d d8
  | .ral => .ral
  | .undef18 => .undef .u18
  | .dadD => .dad .de
  | .ldaxD => .ldax .de
  | .dcxD => .dcx .de
  | .inrE => .inrR .e
  | .dcrE => .dcrR .e
  | .mviE d8 => .mviR .e d8
  | .rar => .rar
  | .undef20 => .undef .u20
  | .lxiH d16 => .lxi .hl d16
  | .shld a16 => .shld a16
  | .inxH => .inx .hl
  | .inrH => .inrR .h
  | .dcrH => .dcrR .h
  | .mviH d8 => .mviR .h d8
  | .daa => .daa
  | .undef28 => .undef .u28
  | .dadH => .dad .hl
  | .lhld a16 => .lhld a16
  | .dcxH => .dcx .hl
  | .inrL => .inrR .l
  | .dcrL => .dcrR .l
  | .mviL d8 => .mviR .l d8
  | .cma => .cma
  | .undef30 => .undef .u30
  | .lxiSp d16 => .lxi .sp d16
  | .sta a16 => .sta a16
  | .inxSp => .inx .sp
  | .inrM => .inrM
  | .dcrM => .dcrM
  | .mviM d8 => .mviM d8
  | .stc => .stc
  | .undef38 => .undef .u38
  | .dadSp => .dad .sp
  | .lda a16 => .lda a16
  | .dcxSp => .dcx .sp
  | .inrA => .inrR .a
  | .dcrA => .dcrR .a
  | .mviA d8 => .mviR .a d8
  | .cmc => .cmc
  | .movBB => .movRR .b .b
  | .movBC => .movRR .b .c
  | .movBD => .movRR .b .d
  | .movBE => .movRR .b .e
  | .movBH => .movRR .b .h
  | .movBL => .movRR .b .l
  | .movBM => .movRM .b
  | .movBA => .movRR .b .a
  | .movCB => .movRR .c .b
  | .movCC => .movRR .c .c
  | .movCD => .movRR .c .d
  | .movCE => .movRR .c .e
  | .movCH => .movRR .c .h
  | .movCL => .movRR .c .l
  | .movCM => .movRM .c
  | .movCA => .movRR .c .a
  | .movDB => .movRR .d .b
  | .movDC => .movRR .d .c
  | .movDD => .movRR .d .d
  | .movDE => .movRR .d .e
  | .movDH => .movRR .d .h
  | .movDL => .movRR .d .l
  | .movDM => .movRM .d
  | .movDA => .movRR .d .a
  | .movEB => .movRR .e .b
  | .movEC => .movRR .e .c
  | .movED => .movRR .e .d
  | .movEE => .movRR .e .e
  | .movEH => .movRR .e .h
  | .movEL => .movRR .e .l
  | .movEM => .movRM .e
  | .movEA => .movRR .e .a
  | .movHB => .movRR .h .b
  | .movHC => .movRR .h .c
  | .movHD => .movRR .h .d
  | .movHE => .movRR .h .e
  | .movHH => .movRR .h .h
  | .movHL => .movRR .h .l
  | .movHM => .movRM .h
  | .movHA => .movRR .h .a
  | .movLB => .movRR .l .b
  | .movLC => .movRR .l .c
  | .movLD => .movRR .l .d
  | .movLE => .movRR .l .e
  | .movLH => .movRR .l .h
  | .movLL => .movRR .l .l
  | .movLM => .movRM .l
  | .movLA => .movRR .l .a
  | .movMB => .movMR .b
  | .movMC => .movMR .c
  | .movMD => .movMR .d
  | .movME => .movMR .e
  | .movMH => .movMR .h
  | .movML => .movMR .l
  | .hlt => .hlt
  | .movMA => .movMR .a
  | .movAB => .movRR .a .b
  | .movAC => .movRR .a .c
  | .movAD => .movRR .a .d
  | .movAE => .movRR .a .e
  | .movAH => .movRR .a .h
  | .movAL => .movRR .a .l
  | .movAM => .movRM .a
  | .movAA => .movRR .a .a
  | .addB => .aluR .add .b
  | .addC => .aluR .add .c
  | .addD => .aluR .add .d
  | .addE => .aluR .add .e
  | .addH => .aluR .add .h
  | .addL => .aluR .add .l
  | .addM => .aluM .add
  | .addA => .aluR .add .a
  | .adcB => .aluR .adc .b
  | .adcC => .aluR .adc .c
  | .adcD => .aluR .adc .d
  | .adcE => .aluR .adc .e
  | .adcH => .aluR .adc .h
  | .adcL => .aluR .adc .l
  | .adcM => .aluM .adc
  | .adcA => .aluR .adc .a
  | .subB => .aluR .sub .b
  | .subC => .aluR .sub .c
  | .subD => .aluR .sub .d
  | .subE => .aluR .sub .e
  | .subH => .aluR .sub .h
  | .subL => .aluR .sub .l
  | .subM => .aluM .sub
  | .subA => .aluR .sub .a
  | .sbbB => .aluR .sbb .b
  | .sbbC => .aluR .sbb .c
  | .sbbD => .aluR .sbb .d
  | .sbbE => .aluR .sbb .e
  | .sbbH => .aluR .sbb .h
  | .sbbL => .aluR .sbb .l
  | .sbbM => .aluM .sbb
  | .sbbA => .aluR .sbb .a
  | .anaB => .aluR .ana .b
  | .anaC => .aluR .ana .c
  | .anaD => .aluR .ana .d
  | .anaE => .aluR .ana .e
  | .anaH => .aluR .ana .h
  | .anaL => .aluR .ana .l
  | .anaM => .aluM .ana
  | .anaA => .aluR .ana .a
  | .xraB => .aluR .xra .b
  | .xraC => .aluR .xra .c
  | .xraD => .aluR .xra .d
  | .xraE => .aluR .xra .e
  | .xraH => .aluR .xra .h
  | .xraL => .aluR .xra .l
  | .xraM => .aluM .xra
  | .xraA => .aluR .xra .a
  | .oraB => .aluR .ora .b
  | .oraC => .aluR .ora .c
  | .oraD => .aluR .ora .d
  | .oraE => .aluR .ora .e
  | .oraH => .aluR .ora .h
  | .oraL => .aluR .ora .l
  | .oraM => .aluM .ora
  | .oraA => .aluR .ora .a
  | .cmpB => .aluR .cmp .b
  | .cmpC => .aluR .cmp .c
  | .cmpD => .aluR .cmp .d
  | .cmpE => .aluR .cmp .e
  | .cmpH => .aluR .cmp .h
  | .cmpL => .aluR .cmp .l
  | .cmpM => .aluM .cmp
  | .cmpA => .aluR .cmp .a
  | .rnz => .rcc .nz
  | .popB => .pop .bc
  | .jnz a16 => .jcc .nz a16
  | .jmp a16 => .jmp a16
  | .cnz a16 => .ccc .nz a16
  | .pushB => .push .bc
  | .adi d8 => .aluI .add d8
  | .rst0 => .rst 0
  | .rz => .rcc .z
  | .ret => .ret
  | .jz a16 => .jcc .z a16
  | .undefCB => .undef .uCB
  | .cz a16 => .ccc .z a16
  | .call a16 => .call a16
  | .aci d8 => .aluI .adc d8
  | .rst1 => .rst 1
  | .rnc => .rcc .nc
  | .popD => .pop .de
  | .jnc a16 => .jcc .nc a16
  | .outPort d8 => .outPort d8
  | .cnc a16 => .ccc .nc a16
  | .pushD => .push .de
  | .sui d8 => .aluI .sub d8
  | .rst2 => .rst 2
  | .rc => .rcc .c
  | .undefD9 => .undef .uD9
  | .jc a16 => .jcc .c a16
  | .inPort d8 => .inPort d8
  | .cc a16 => .ccc .c a16
  | .undefDD => .undef .uDD
  | .sbi d8 => .aluI .sbb d8
  | .rst3 => .rst 3
  | .rpo => .rcc .po
  | .popH => .pop .hl
  | .jpo a16 => .jcc .po a16
  | .xthl => .xthl
  | .cpo a16 => .ccc .po a16
  | .pushH => .push .hl
  | .ani d8 => .aluI .ana d8
  | .rst4 => .rst 4
  | .rpe => .rcc .pe
  | .pchl => .pchl
  | .jpe a16 => .jcc .pe a16
  | .xchg => .xchg
  | .cpe a16 => .ccc .pe a16
  | .undefED => .undef .uED
  | .xri d8 => .aluI .xra d8
  | .rst5 => .rst 5
  | .rp => .rcc .p
  | .popPsw => .popPsw
  | .jp a16 => .jcc .p a16
  | .di => .di
  | .cp a16 => .ccc .p a16
  | .pushPsw => .pushPsw
  | .ori d8 => .aluI .ora d8
  | .rst6 => .rst 6
  | .rm => .rcc .m
  | .sphl => .sphl
  | .jm a16 => .jcc .m a16
  | .ei => .ei
  | .cm a16 => .ccc .m a16
  | .undefFD => .undef .uFD
  | .cpi d8 => .aluI .cmp d8
  | .rst7 => .rst 7

/-! ### The codes of the operand fields -/

/-- The 8-bit operand that a `ddd` or `sss` code names; none is M, code 110 (R83). -/
def reg8Of : Fin 8 → Option Reg
  | 0 => some .b
  | 1 => some .c
  | 2 => some .d
  | 3 => some .e
  | 4 => some .h
  | 5 => some .l
  | 6 => none
  | 7 => some .a

/-- The pair that a `pp` code names in LXI, INX, DCX and DAD (R84). -/
def pairOf : Fin 4 → Pair
  | 0 => .bc
  | 1 => .de
  | 2 => .hl
  | 3 => .sp

/-- The condition that a `ccc` code names (R85). -/
def condOf : Fin 8 → Cond
  | 0 => .nz
  | 1 => .z
  | 2 => .nc
  | 3 => .c
  | 4 => .po
  | 5 => .pe
  | 6 => .p
  | 7 => .m

/-- The ALU operation that an `aaa` code names (R86). -/
def aluOpOf : Fin 8 → AluOp
  | 0 => .add
  | 1 => .adc
  | 2 => .sub
  | 3 => .sbb
  | 4 => .ana
  | 5 => .xra
  | 6 => .ora
  | 7 => .cmp

/-! ### The decoder -/

/-- What an opcode byte alone decides: the format, and the instruction once its immediate is there (R80, R81). -/
inductive Decoded where
  | op    (f : Form)
  | opD8  (f : Byte → Form)
  | opA16 (f : Word → Form)

/-- Group 00 of the opcode byte (R82): miscellaneous, immediate and 16-bit forms. -/
def decodeGroup00 (op : Byte) : Decoded :=
  match fieldSss op with
  | 0 =>
    match fieldDdd op with
    | 0 => .op .nop
    | 1 => .op (.undef .u08)
    | 2 => .op (.undef .u10)
    | 3 => .op (.undef .u18)
    | 4 => .op (.undef .u20)
    | 5 => .op (.undef .u28)
    | 6 => .op (.undef .u30)
    | 7 => .op (.undef .u38)
  | 1 => if fieldQ op then .op (.dad (pairOf (fieldPp op))) else .opA16 (.lxi (pairOf (fieldPp op)))
  | 2 =>
    match fieldDdd op with
    | 0 => .op (.stax .bc)
    | 1 => .op (.ldax .bc)
    | 2 => .op (.stax .de)
    | 3 => .op (.ldax .de)
    | 4 => .opA16 .shld
    | 5 => .opA16 .lhld
    | 6 => .opA16 .sta
    | 7 => .opA16 .lda
  | 3 => if fieldQ op then .op (.dcx (pairOf (fieldPp op))) else .op (.inx (pairOf (fieldPp op)))
  | 4 =>
    match reg8Of (fieldDdd op) with
    | some r => .op (.inrR r)
    | none => .op .inrM
  | 5 =>
    match reg8Of (fieldDdd op) with
    | some r => .op (.dcrR r)
    | none => .op .dcrM
  | 6 =>
    match reg8Of (fieldDdd op) with
    | some r => .opD8 (.mviR r)
    | none => .opD8 .mviM
  | 7 =>
    match fieldDdd op with
    | 0 => .op .rlc
    | 1 => .op .rrc
    | 2 => .op .ral
    | 3 => .op .rar
    | 4 => .op .daa
    | 5 => .op .cma
    | 6 => .op .stc
    | 7 => .op .cmc

/-- Group 01 (R82): MOV, but for `01110110`, which is HLT. -/
def decodeGroup01 (op : Byte) : Decoded :=
  match reg8Of (fieldDdd op), reg8Of (fieldSss op) with
  | some dst, some src => .op (.movRR dst src)
  | some dst, none => .op (.movRM dst)
  | none, some src => .op (.movMR src)
  | none, none => .op .hlt

/-- Group 10 (R82): the ALU operations on a register or M. -/
def decodeGroup10 (op : Byte) : Decoded :=
  match reg8Of (fieldSss op) with
  | some src => .op (.aluR (aluOpOf (fieldDdd op)) src)
  | none => .op (.aluM (aluOpOf (fieldDdd op)))

/-- Group 11 (R82): control, stack, immediate ALU operations and I/O. -/
def decodeGroup11 (op : Byte) : Decoded :=
  match fieldSss op with
  | 0 => .op (.rcc (condOf (fieldDdd op)))
  | 1 =>
    match fieldQ op, fieldPp op with
    | false, 0 => .op (.pop .bc)
    | false, 1 => .op (.pop .de)
    | false, 2 => .op (.pop .hl)
    | false, 3 => .op .popPsw
    | true, 0 => .op .ret
    | true, 1 => .op (.undef .uD9)
    | true, 2 => .op .pchl
    | true, 3 => .op .sphl
  | 2 => .opA16 (.jcc (condOf (fieldDdd op)))
  | 3 =>
    match fieldDdd op with
    | 0 => .opA16 .jmp
    | 1 => .op (.undef .uCB)
    | 2 => .opD8 .outPort
    | 3 => .opD8 .inPort
    | 4 => .op .xthl
    | 5 => .op .xchg
    | 6 => .op .di
    | 7 => .op .ei
  | 4 => .opA16 (.ccc (condOf (fieldDdd op)))
  | 5 =>
    match fieldQ op, fieldPp op with
    | false, 0 => .op (.push .bc)
    | false, 1 => .op (.push .de)
    | false, 2 => .op (.push .hl)
    | false, 3 => .op .pushPsw
    | true, 0 => .opA16 .call
    | true, 1 => .op (.undef .uDD)
    | true, 2 => .op (.undef .uED)
    | true, 3 => .op (.undef .uFD)
  | 6 => .opD8 (.aluI (aluOpOf (fieldDdd op)))
  | 7 => .op (.rst (fieldDdd op))

/-- The opcode byte by its major group (R82). No opcode value is without a decoding (R92): the twelve
undefined values decode to the rows that name them (R89), one byte long; the bytes that some of them take
under `UNDEF_POLICY = intel_alias` (R81) are fetched by their meanings (log entry 7). -/
def decodeOpcode (op : Byte) : Decoded :=
  match fieldGg op with
  | 0 => decodeGroup00 op
  | 1 => decodeGroup01 op
  | 2 => decodeGroup10 op
  | 3 => decodeGroup11 op

/-- Why a list of bytes holds no whole instruction at its head. -/
inductive DecodeError where
  /-- no byte at all -/
  | empty
  /-- the opcode's format (R80) has more bytes than the list -/
  | truncated (opcode : Byte)
  deriving DecidableEq, Repr

/-- The instruction at the head of a list of bytes and the bytes after it, or why there is none
(R80, R81, R88). -/
def decode : List Byte → Except DecodeError (Instr × List Byte)
  | [] => .error .empty
  | op :: rest =>
    match decodeOpcode op, rest with
    | .op f, rest => .ok (f.instr, rest)
    | .opD8 f, d8 :: rest => .ok ((f d8).instr, rest)
    | .opD8 _, [] => .error (.truncated op)
    | .opA16 f, b1 :: b2 :: rest => .ok ((f (cat16 b2 b1)).instr, rest)
    | .opA16 _, [_] => .error (.truncated op)
    | .opA16 _, [] => .error (.truncated op)

/-! ### The encoder -/

/-- The bytes of an instruction, lowest address first (R80, R88, R92). -/
def encode : Instr → List Byte
  | .nop => [0x00]
  | .lxiB d16 => [0x01, lo8 d16, hi8 d16]
  | .staxB => [0x02]
  | .inxB => [0x03]
  | .inrB => [0x04]
  | .dcrB => [0x05]
  | .mviB d8 => [0x06, d8]
  | .rlc => [0x07]
  | .undef08 => [0x08]
  | .dadB => [0x09]
  | .ldaxB => [0x0A]
  | .dcxB => [0x0B]
  | .inrC => [0x0C]
  | .dcrC => [0x0D]
  | .mviC d8 => [0x0E, d8]
  | .rrc => [0x0F]
  | .undef10 => [0x10]
  | .lxiD d16 => [0x11, lo8 d16, hi8 d16]
  | .staxD => [0x12]
  | .inxD => [0x13]
  | .inrD => [0x14]
  | .dcrD => [0x15]
  | .mviD d8 => [0x16, d8]
  | .ral => [0x17]
  | .undef18 => [0x18]
  | .dadD => [0x19]
  | .ldaxD => [0x1A]
  | .dcxD => [0x1B]
  | .inrE => [0x1C]
  | .dcrE => [0x1D]
  | .mviE d8 => [0x1E, d8]
  | .rar => [0x1F]
  | .undef20 => [0x20]
  | .lxiH d16 => [0x21, lo8 d16, hi8 d16]
  | .shld a16 => [0x22, lo8 a16, hi8 a16]
  | .inxH => [0x23]
  | .inrH => [0x24]
  | .dcrH => [0x25]
  | .mviH d8 => [0x26, d8]
  | .daa => [0x27]
  | .undef28 => [0x28]
  | .dadH => [0x29]
  | .lhld a16 => [0x2A, lo8 a16, hi8 a16]
  | .dcxH => [0x2B]
  | .inrL => [0x2C]
  | .dcrL => [0x2D]
  | .mviL d8 => [0x2E, d8]
  | .cma => [0x2F]
  | .undef30 => [0x30]
  | .lxiSp d16 => [0x31, lo8 d16, hi8 d16]
  | .sta a16 => [0x32, lo8 a16, hi8 a16]
  | .inxSp => [0x33]
  | .inrM => [0x34]
  | .dcrM => [0x35]
  | .mviM d8 => [0x36, d8]
  | .stc => [0x37]
  | .undef38 => [0x38]
  | .dadSp => [0x39]
  | .lda a16 => [0x3A, lo8 a16, hi8 a16]
  | .dcxSp => [0x3B]
  | .inrA => [0x3C]
  | .dcrA => [0x3D]
  | .mviA d8 => [0x3E, d8]
  | .cmc => [0x3F]
  | .movBB => [0x40]
  | .movBC => [0x41]
  | .movBD => [0x42]
  | .movBE => [0x43]
  | .movBH => [0x44]
  | .movBL => [0x45]
  | .movBM => [0x46]
  | .movBA => [0x47]
  | .movCB => [0x48]
  | .movCC => [0x49]
  | .movCD => [0x4A]
  | .movCE => [0x4B]
  | .movCH => [0x4C]
  | .movCL => [0x4D]
  | .movCM => [0x4E]
  | .movCA => [0x4F]
  | .movDB => [0x50]
  | .movDC => [0x51]
  | .movDD => [0x52]
  | .movDE => [0x53]
  | .movDH => [0x54]
  | .movDL => [0x55]
  | .movDM => [0x56]
  | .movDA => [0x57]
  | .movEB => [0x58]
  | .movEC => [0x59]
  | .movED => [0x5A]
  | .movEE => [0x5B]
  | .movEH => [0x5C]
  | .movEL => [0x5D]
  | .movEM => [0x5E]
  | .movEA => [0x5F]
  | .movHB => [0x60]
  | .movHC => [0x61]
  | .movHD => [0x62]
  | .movHE => [0x63]
  | .movHH => [0x64]
  | .movHL => [0x65]
  | .movHM => [0x66]
  | .movHA => [0x67]
  | .movLB => [0x68]
  | .movLC => [0x69]
  | .movLD => [0x6A]
  | .movLE => [0x6B]
  | .movLH => [0x6C]
  | .movLL => [0x6D]
  | .movLM => [0x6E]
  | .movLA => [0x6F]
  | .movMB => [0x70]
  | .movMC => [0x71]
  | .movMD => [0x72]
  | .movME => [0x73]
  | .movMH => [0x74]
  | .movML => [0x75]
  | .hlt => [0x76]
  | .movMA => [0x77]
  | .movAB => [0x78]
  | .movAC => [0x79]
  | .movAD => [0x7A]
  | .movAE => [0x7B]
  | .movAH => [0x7C]
  | .movAL => [0x7D]
  | .movAM => [0x7E]
  | .movAA => [0x7F]
  | .addB => [0x80]
  | .addC => [0x81]
  | .addD => [0x82]
  | .addE => [0x83]
  | .addH => [0x84]
  | .addL => [0x85]
  | .addM => [0x86]
  | .addA => [0x87]
  | .adcB => [0x88]
  | .adcC => [0x89]
  | .adcD => [0x8A]
  | .adcE => [0x8B]
  | .adcH => [0x8C]
  | .adcL => [0x8D]
  | .adcM => [0x8E]
  | .adcA => [0x8F]
  | .subB => [0x90]
  | .subC => [0x91]
  | .subD => [0x92]
  | .subE => [0x93]
  | .subH => [0x94]
  | .subL => [0x95]
  | .subM => [0x96]
  | .subA => [0x97]
  | .sbbB => [0x98]
  | .sbbC => [0x99]
  | .sbbD => [0x9A]
  | .sbbE => [0x9B]
  | .sbbH => [0x9C]
  | .sbbL => [0x9D]
  | .sbbM => [0x9E]
  | .sbbA => [0x9F]
  | .anaB => [0xA0]
  | .anaC => [0xA1]
  | .anaD => [0xA2]
  | .anaE => [0xA3]
  | .anaH => [0xA4]
  | .anaL => [0xA5]
  | .anaM => [0xA6]
  | .anaA => [0xA7]
  | .xraB => [0xA8]
  | .xraC => [0xA9]
  | .xraD => [0xAA]
  | .xraE => [0xAB]
  | .xraH => [0xAC]
  | .xraL => [0xAD]
  | .xraM => [0xAE]
  | .xraA => [0xAF]
  | .oraB => [0xB0]
  | .oraC => [0xB1]
  | .oraD => [0xB2]
  | .oraE => [0xB3]
  | .oraH => [0xB4]
  | .oraL => [0xB5]
  | .oraM => [0xB6]
  | .oraA => [0xB7]
  | .cmpB => [0xB8]
  | .cmpC => [0xB9]
  | .cmpD => [0xBA]
  | .cmpE => [0xBB]
  | .cmpH => [0xBC]
  | .cmpL => [0xBD]
  | .cmpM => [0xBE]
  | .cmpA => [0xBF]
  | .rnz => [0xC0]
  | .popB => [0xC1]
  | .jnz a16 => [0xC2, lo8 a16, hi8 a16]
  | .jmp a16 => [0xC3, lo8 a16, hi8 a16]
  | .cnz a16 => [0xC4, lo8 a16, hi8 a16]
  | .pushB => [0xC5]
  | .adi d8 => [0xC6, d8]
  | .rst0 => [0xC7]
  | .rz => [0xC8]
  | .ret => [0xC9]
  | .jz a16 => [0xCA, lo8 a16, hi8 a16]
  | .undefCB => [0xCB]
  | .cz a16 => [0xCC, lo8 a16, hi8 a16]
  | .call a16 => [0xCD, lo8 a16, hi8 a16]
  | .aci d8 => [0xCE, d8]
  | .rst1 => [0xCF]
  | .rnc => [0xD0]
  | .popD => [0xD1]
  | .jnc a16 => [0xD2, lo8 a16, hi8 a16]
  | .outPort d8 => [0xD3, d8]
  | .cnc a16 => [0xD4, lo8 a16, hi8 a16]
  | .pushD => [0xD5]
  | .sui d8 => [0xD6, d8]
  | .rst2 => [0xD7]
  | .rc => [0xD8]
  | .undefD9 => [0xD9]
  | .jc a16 => [0xDA, lo8 a16, hi8 a16]
  | .inPort d8 => [0xDB, d8]
  | .cc a16 => [0xDC, lo8 a16, hi8 a16]
  | .undefDD => [0xDD]
  | .sbi d8 => [0xDE, d8]
  | .rst3 => [0xDF]
  | .rpo => [0xE0]
  | .popH => [0xE1]
  | .jpo a16 => [0xE2, lo8 a16, hi8 a16]
  | .xthl => [0xE3]
  | .cpo a16 => [0xE4, lo8 a16, hi8 a16]
  | .pushH => [0xE5]
  | .ani d8 => [0xE6, d8]
  | .rst4 => [0xE7]
  | .rpe => [0xE8]
  | .pchl => [0xE9]
  | .jpe a16 => [0xEA, lo8 a16, hi8 a16]
  | .xchg => [0xEB]
  | .cpe a16 => [0xEC, lo8 a16, hi8 a16]
  | .undefED => [0xED]
  | .xri d8 => [0xEE, d8]
  | .rst5 => [0xEF]
  | .rp => [0xF0]
  | .popPsw => [0xF1]
  | .jp a16 => [0xF2, lo8 a16, hi8 a16]
  | .di => [0xF3]
  | .cp a16 => [0xF4, lo8 a16, hi8 a16]
  | .pushPsw => [0xF5]
  | .ori d8 => [0xF6, d8]
  | .rst6 => [0xF7]
  | .rm => [0xF8]
  | .sphl => [0xF9]
  | .jm a16 => [0xFA, lo8 a16, hi8 a16]
  | .ei => [0xFB]
  | .cm a16 => [0xFC, lo8 a16, hi8 a16]
  | .undefFD => [0xFD]
  | .cpi d8 => [0xFE, d8]
  | .rst7 => [0xFF]

/-- How many bytes an instruction has (R80). -/
def Instr.length (i : Instr) : Nat := (encode i).length

/-! ### A word of the opcode table -/

/-- The `nbits` low bits of `w`, every bit above them 0. -/
def tableBits (nbits w : Nat) : Nat := w % 2 ^ nbits

/-- The three bytes, the longest instruction, that a word of the opcode table stands for: bits 7..0 are
the first byte, bits 15..8 the second, bits 23..16 the third. -/
def tableBytes (nbits w : Nat) : List Byte :=
  [BitVec.ofNat 8 (tableBits nbits w),
   BitVec.ofNat 8 (tableBits nbits w / 256),
   BitVec.ofNat 8 (tableBits nbits w / 65536)]

/-- The instruction the decoder reads from a word of the opcode table. -/
def decodeTableWord (nbits w : Nat) : Option Instr :=
  match decode (tableBytes nbits w) with
  | .ok (i, _) => some i
  | .error _ => none

end Sys2Proof
end

