-- ==== Sys2Proof/Config.lean ====
section
/-! DEFINITION. What an implementation fixes: the three named parameters of 00_scope.md R8 as plain data, and the platform behind the I/O ports (20_memory.md R70 to R74) as free values that no proof can evaluate. -/

namespace Sys2Proof

/-- `UNDEF_POLICY` (60_exceptions.md R251, D1): what an undefined opcode value does. -/
inductive UndefPolicy where
  /-- the distinguished undefined-opcode condition (R252); the default -/
  | fault
  /-- the Intel 8080's own behaviour on the value (R253) -/
  | intelAlias
  deriving DecidableEq, Repr

/-- `AC_SUB_MODE` (40_alu_flags.md R103, D4): the half-carry of a subtraction. -/
inductive AcSubMode where
  /-- the borrow from bit 4 into bit 3; the default -/
  | borrow
  /-- the carry out of bit 3 of a + ~b + (1 - bin) -/
  | intel
  deriving DecidableEq, Repr

/-- `AC_AND_MODE` (40_alu_flags.md R106, D5): the half-carry of AND. -/
inductive AcAndMode where
  /-- cleared; the default -/
  | clear
  /-- the OR of bit 3 of the two operands -/
  | intel
  deriving DecidableEq, Repr

/-- The named parameters of 00_scope.md R8 that are finite choices.
DESIGN CHOICE (log entry 1, safe): they travel in `State.cfg` and no step writes them, so that every
value of each is modelled and a statement about every state is a statement about every value. -/
structure Config where
  undefPolicy : UndefPolicy
  acSubMode   : AcSubMode
  acAndMode   : AcAndMode
  deriving DecidableEq, Repr

/-- The defaults that the table of R8 gives. -/
def Config.default : Config :=
  { undefPolicy := .fault, acSubMode := .borrow, acAndMode := .clear }

/-- One event of the I/O history (R8, R70 to R72, D11). -/
inductive IoEvent where
  /-- `IoRead(port)` answered `value` -/
  | input (port value : Byte)
  /-- `IoWrite(port, value)` was issued -/
  | output (port value : Byte)
  /-- a reset bound the four collaborators anew (R281; log entry 13) -/
  | bound
  deriving DecidableEq, Repr

/-- Whether a port has a read handler, under the bindings made by the reset of the given number (R71,
R74, R281). The source gives no port numbers (N11, D22). Free value: no body. DESIGN CHOICE (log entry 2, safe). -/
opaque Config.readMapped : Nat → Byte → Bool

/-- Whether a port has a write handler, under the bindings made by the reset of the given number (R72,
R74, R281). Apart from `readMapped`, since a device may bind a port for one direction alone. Free value: no
body. DESIGN CHOICE (log entry 2, safe). -/
opaque Config.writeMapped : Nat → Byte → Bool

/-- The byte the handler of a mapped port answers, a total function of the part of the I/O history that
reached the handlers (oldest event first) and the port (R8, R71, D11). Free value: no body. DESIGN CHOICE (log entry 2, safe). -/
opaque Config.handlerRead : List IoEvent → Byte → Byte

end Sys2Proof
end

