-- ==== Sys2Proof/Machine/State.lean ====
section
/-! DEFINITION. The state of the machine as plain data (10_state.md R20 to R38), why a step stops, and the state right after reset (R40). -/

namespace Sys2Proof.Machine

/-- The five flags (10_state.md R26). The reserved bits of F hold no state (R28). -/
structure Flags where
  s  : Bool
  z  : Bool
  ac : Bool
  p  : Bool
  cy : Bool
  deriving DecidableEq, Repr

/-- What the fault mark records: `UndefinedOpcode(addr, opcode)` (10_state.md R38). -/
structure UndefinedOpcode where
  addr   : Word
  opcode : Byte
  deriving DecidableEq, Repr

/-- Memory as (address, byte) pairs in canonical form: addresses strictly rising and below 65536, no
entry equal to what an unlisted address reads as (`Memory.wf` and `Memory.unlisted`, Machine/Ops.lean). -/
abbrev Memory := List Host.Cell

/-- The state record of 10_state.md R20, the memory the core reads and writes (R39, R50), and the
model's own two fields `cfg` (log entry 1) and `io` (log entry 3). -/
structure State where
  /-- the accumulator (R21) -/
  a : Byte
  /-- high half of BC (R21, R22) -/
  b : Byte
  /-- low half of BC -/
  c : Byte
  /-- high half of DE -/
  d : Byte
  /-- low half of DE -/
  e : Byte
  /-- high half of HL -/
  h : Byte
  /-- low half of HL -/
  l : Byte
  /-- the flags (R26, R27) -/
  flags : Flags
  /-- the stack pointer (R31) -/
  sp : Word
  /-- the program counter (R32) -/
  pc : Word
  /-- INTE, the interrupt-enable boolean (R33); not a bit of F (R30) -/
  inte : Bool
  /-- HALTED (R34) -/
  halted : Bool
  /-- AB, the last address-bus value (R35) -/
  ab : Word
  /-- DB, the last data-bus byte (R36) -/
  db : Byte
  /-- IR, the current opcode (R37) -/
  ir : Byte
  /-- FAULT, the model-level fault mark (R38) -/
  faultMark : Option UndefinedOpcode
  /-- the 65536-byte memory (20_memory.md R50) -/
  mem : Memory
  /-- MODEL's own field: the parameters of R8 -/
  cfg : Config
  /-- MODEL's own field: the I/O history, oldest event first (R8, R70) -/
  io : List IoEvent
  deriving DecidableEq, Repr

/-- Why a step stops. -/
inductive Fault where
  /-- Raised by `step` alone, in a state whose FAULT mark is set: no step runs (R38, R287, U11), the
  outcome the spec calls Stopped. Safe: nothing is claimed beyond the mark. -/
  | stopped (addr : Word) (opcode : Byte)
  deriving DecidableEq, Repr

/-- Why an instruction has no meaning. -/
inductive Refusal where
  /-- Raised by an arm of `exec` whose instruction has no meaning yet; no arm of this model does. Safe. -/
  | notModelled (mnemonic : String)
  deriving DecidableEq, Repr

/-- Right after reset: every field at the value of the table of 10_state.md R40 (70_reset_and_hazards.md
R280). The source gives the registers, the flags and PC; INTE is D6; HALTED, AB, DB, IR and FAULT are D15.
Nothing is listed in memory (log entry 4), the parameters are the defaults of R8 (log entry 1), the I/O
history is empty (log entry 3). -/
def State.reset : State :=
  { a := 0, b := 0, c := 0, d := 0, e := 0, h := 0, l := 0
    flags := { s := false, z := false, ac := false, p := false, cy := false }
    sp := 0x0000, pc := 0x0000, inte := false, halted := false
    ab := 0x0000, db := 0x00, ir := 0x00, faultMark := none
    mem := [], cfg := Config.default, io := [] }

end Sys2Proof.Machine
end

