-- ==== Sys2Proof/Machine/Flags.lean ====
section
/-! DEFINITION. The flags byte F (10_state.md R27, R28) and the flag ALU (40_alu_flags.md R100 to R110): pure functions of their arguments and the parameters AC_SUB_MODE and AC_AND_MODE. -/

namespace Sys2Proof.Machine

/-- `get_flags`: F = S Z 0 AC 0 P 1 CY, bit 7 first (R27). -/
def Flags.toByte (f : Flags) : Byte :=
  BitVec.ofNat 8 (f.s.toNat * 128 + f.z.toNat * 64 + f.ac.toNat * 16 + f.p.toNat * 4 + 2 + f.cy.toNat)

/-- `set_flags(v)`: bits 7, 6, 4, 2, 0; bits 5, 3, 1 are discarded (R28). -/
def Flags.ofByte (v : Byte) : Flags :=
  { s := v.getLsbD 7, z := v.getLsbD 6, ac := v.getLsbD 4, p := v.getLsbD 2, cy := v.getLsbD 0 }

/-- `szp(res)` with the half-carry and carry that the caller computed (R100). -/
def flagsOf (res : Byte) (ac cy : Bool) : Flags :=
  { s := res.getLsbD 7, z := res == 0, ac := ac, p := parity res, cy := cy }

/-- A result byte and the five flags a flag function returns with it. -/
structure AluResult where
  res   : Byte
  flags : Flags
  deriving DecidableEq, Repr

/-- The low nibble of a byte as a number. -/
def lowNibble (v : Byte) : Nat := (v &&& 0x0F#8).toNat

/-- `add8(a, b, cin)` (R101). -/
def add8 (a b : Byte) (cin : Bool) : AluResult :=
  let t := a.toNat + b.toNat + cin.toNat
  let res := BitVec.ofNat 8 t
  { res := res
    flags := flagsOf res (decide (lowNibble a + lowNibble b + cin.toNat ≥ 16)) (decide (t ≥ 256)) }

/-- `ac_sub(a, b, bin)` under either value of AC_SUB_MODE (R103). -/
def acSub (mode : AcSubMode) (a b : Byte) (bin : Bool) : Bool :=
  match mode with
  | .borrow => decide (lowNibble a < lowNibble b + bin.toNat)
  | .intel  => decide (lowNibble a + lowNibble (~~~b) + (1 - bin.toNat) ≥ 16)

/-- `sub8(a, b, bin)` computes a - b - bin (R102). -/
def sub8 (mode : AcSubMode) (a b : Byte) (bin : Bool) : AluResult :=
  let t : Int := (a.toNat : Int) - b.toNat - bin.toNat
  let res := BitVec.ofInt 8 t
  { res := res, flags := flagsOf res (acSub mode a b bin) (decide (t < 0)) }

/-- `inc8(v)` beside the carry it leaves untouched (R104). -/
def inc8 (v : Byte) (cy : Bool) : AluResult :=
  let res := BitVec.ofNat 8 (v.toNat + 1)
  { res := res, flags := flagsOf res (decide (lowNibble v = 0x0F)) cy }

/-- `dec8(v)` beside the carry it leaves untouched (R105). -/
def dec8 (mode : AcSubMode) (v : Byte) (cy : Bool) : AluResult :=
  let res := BitVec.ofInt 8 ((v.toNat : Int) - 1)
  { res := res, flags := flagsOf res (acSub mode v 1 false) cy }

/-- `ac_and(a, b)` under either value of AC_AND_MODE (R106). -/
def acAnd (mode : AcAndMode) (a b : Byte) : Bool :=
  match mode with
  | .clear => false
  | .intel => a.getLsbD 3 || b.getLsbD 3

/-- `and8(a, b)` (R107). -/
def and8 (mode : AcAndMode) (a b : Byte) : AluResult :=
  { res := a &&& b, flags := flagsOf (a &&& b) (acAnd mode a b) false }

/-- `xor8(a, b)` (R107). -/
def xor8 (a b : Byte) : AluResult :=
  { res := a ^^^ b, flags := flagsOf (a ^^^ b) false false }

/-- `or8(a, b)` (R107). -/
def or8 (a b : Byte) : AluResult :=
  { res := a ||| b, flags := flagsOf (a ||| b) false false }

/-- `alu(aaa, a, v)`, reading CY for ADC and SBB (R108). -/
def alu (cfg : Config) (op : AluOp) (a v : Byte) (cy : Bool) : AluResult :=
  match op with
  | .add => add8 a v false
  | .adc => add8 a v cy
  | .sub => sub8 cfg.acSubMode a v false
  | .sbb => sub8 cfg.acSubMode a v cy
  | .ana => and8 cfg.acAndMode a v
  | .xra => xor8 a v
  | .ora => or8 a v
  | .cmp => sub8 cfg.acSubMode a v false

/-- Whether the ALU operation writes A: all but the compare do (R108). -/
def writesA (op : AluOp) : Bool :=
  match op with
  | .add | .adc | .sub | .sbb | .ana | .xra | .ora => true
  | .cmp => false

/-- `add16(a, b)`: the result and the carry out of bit 15 (R109). -/
def add16 (a b : Word) : Word × Bool :=
  let t := a.toNat + b.toNat
  (BitVec.ofNat 16 t, decide (t ≥ 65536))

/-- Whether DAA makes the low correction (R110). -/
def daaLow (a : Byte) (ac : Bool) : Bool := ac || decide (lowNibble a > 9)

/-- Whether DAA makes the high correction (R110). -/
def daaHigh (a : Byte) (cy : Bool) : Bool :=
  let hi := a.toNat / 16
  cy || decide (hi > 9) || (decide (hi ≥ 9) && decide (lowNibble a > 9))

/-- `daa(a, AC, CY)` (R110). -/
def daa (a : Byte) (ac cy : Bool) : AluResult :=
  let corr := (if daaLow a ac then 0x06#8 else 0#8) + (if daaHigh a cy then 0x60#8 else 0#8)
  let r := add8 a corr false
  { r with flags := { r.flags with cy := cy || daaHigh a cy } }

/-- `cond(ccc)`, read from the flags (30_encoding.md R85). -/
def Flags.holds (f : Flags) (ccc : Cond) : Bool :=
  match ccc with
  | .nz => !f.z
  | .z  => f.z
  | .nc => !f.cy
  | .c  => f.cy
  | .po => !f.p
  | .pe => f.p
  | .p  => !f.s
  | .m  => f.s

end Sys2Proof.Machine
end

