-- ==== Sys2Proof/Machine/Ops.lean ====
section
/-! DEFINITION. The named operations over memory and registers: the memory bus (20_memory.md R50 to R59), the register-file accessors (10_state.md R21 to R28), the instruction-byte fetch (30_encoding.md R87), the stack (R31), the I/O ports (20_memory.md R70 to R73), and the one exceptional condition (60_exceptions.md R252). -/

namespace Sys2Proof.Machine

/-- What one step, or one meaning, answers. -/
abbrev Result := Host.Outcome State Fault Refusal

/-! ### Memory -/

/-- What an unlisted address reads as. DESIGN CHOICE (log entry 4, unsafe): the spec gives no contents
of memory before the host loads it. -/
def Memory.unlisted : Byte := 0x00

/-- The byte a list of cells holds at an address. -/
def Memory.lookup : Memory → Nat → Byte
  | [], _ => Memory.unlisted
  | (k, v) :: rest, addr => if k = addr then v else Memory.lookup rest addr

/-- Put one byte into a list of cells, keeping it in canonical form. -/
def Memory.insert : Memory → Nat → Byte → Memory
  | [], addr, v => if v = Memory.unlisted then [] else [(addr, v)]
  | (k, w) :: rest, addr, v =>
    if addr < k then
      if v = Memory.unlisted then (k, w) :: rest else (addr, v) :: (k, w) :: rest
    else if addr = k then
      if v = Memory.unlisted then rest else (addr, v) :: rest
    else (k, w) :: Memory.insert rest addr v

/-- `read8(addr)`: the byte at addr if addr < 65536, else 0 (R52). -/
def Memory.read8 (m : Memory) (addr : Nat) : Byte :=
  if addr < 65536 then m.lookup addr else 0

/-- `write8(addr, val)`: stores if in range, else drops the write (R53). -/
def Memory.write8 (m : Memory) (addr : Nat) (v : Byte) : Memory :=
  if addr < 65536 then m.insert addr v else m

/-- The canonical form: addresses strictly rising, all below 65536, no entry an unlisted byte. -/
abbrev Memory.wf (m : Memory) : Prop :=
  List.Pairwise (fun x y : Host.Cell => x.1 < y.1) m ∧ ∀ c ∈ m, c.1 < 65536 ∧ c.2 ≠ Memory.unlisted

/-! ### The register file -/

/-- One of the seven 8-bit registers (R21). -/
def State.getReg (s : State) (r : Reg) : Byte :=
  match r with
  | .b => s.b
  | .c => s.c
  | .d => s.d
  | .e => s.e
  | .h => s.h
  | .l => s.l
  | .a => s.a

/-- Write one of the seven 8-bit registers, and nothing else (R24, R25). -/
def State.setReg (s : State) (r : Reg) (v : Byte) : State :=
  match r with
  | .b => { s with b := v }
  | .c => { s with c := v }
  | .d => { s with d := v }
  | .e => { s with e := v }
  | .h => { s with h := v }
  | .l => { s with l := v }
  | .a => { s with a := v }

/-- BC = B*256 + C (R23). -/
def State.bc (s : State) : Word := cat16 s.b s.c

/-- DE = D*256 + E (R23). -/
def State.de (s : State) : Word := cat16 s.d s.e

/-- HL = H*256 + L (R23). -/
def State.hl (s : State) : Word := cat16 s.h s.l

/-- PSW = A*256 + F (R23, R27). -/
def State.psw (s : State) : Word := cat16 s.a s.flags.toByte

/-- Write HL: both halves together (R24). -/
def State.setHl (s : State) (w : Word) : State := { s with h := hi8 w, l := lo8 w }

/-- Write PSW: A from the high byte, the flags by `set_flags` from the low byte (R24, R28). -/
def State.setPsw (s : State) (w : Word) : State :=
  { s with a := hi8 w, flags := Flags.ofByte (lo8 w) }

/-- `rp(c)` of LXI, INX, DCX and DAD (30_encoding.md R84). -/
def State.getPair (s : State) (p : Pair) : Word :=
  match p with
  | .bc => s.bc
  | .de => s.de
  | .hl => s.hl
  | .sp => s.sp

/-- `rp(c) <- w` of LXI, INX, DCX and DAD (30_encoding.md R84, 10_state.md R24). -/
def State.setPair (s : State) (p : Pair) (w : Word) : State :=
  match p with
  | .bc => { s with b := hi8 w, c := lo8 w }
  | .de => { s with d := hi8 w, e := lo8 w }
  | .hl => s.setHl w
  | .sp => { s with sp := w }

/-! ### The memory bus -/

/-- The byte memory holds at an address, with no bus access: what `MemRead(addr, 1)` returns (R52). -/
def State.byteAt (s : State) (addr : Word) : Byte := s.mem.read8 addr.toNat

/-- The bus shows one byte access: AB and DB (R57). -/
def State.observe (s : State) (addr : Word) (v : Byte) : State := { s with ab := addr, db := v }

/-- `MemRead(addr, 1)` (R52, R57). -/
def State.memRead1 (s : State) (addr : Word) : Byte × State :=
  (s.byteAt addr, s.observe addr (s.byteAt addr))

/-- `MemWrite(addr, 1, v)` (R53, R57). -/
def State.memWrite1 (s : State) (addr : Word) (v : Byte) : State :=
  { s with mem := s.mem.write8 addr.toNat v }.observe addr v

/-- `MemRead(addr, 2)`: the low byte at addr, then the high byte at addr + 1 modulo 65536 (R54). -/
def State.memRead2 (s : State) (addr : Word) : Word × State :=
  let lo := s.memRead1 addr
  let hi := lo.2.memRead1 (addr + 1)
  (cat16 hi.1 lo.1, hi.2)

/-- `MemWrite(addr, 2, w)`: the low byte at addr, then the high byte at addr + 1 modulo 65536 (R55). -/
def State.memWrite2 (s : State) (addr : Word) (w : Word) : State :=
  (s.memWrite1 addr (lo8 w)).memWrite1 (addr + 1) (hi8 w)

/-! ### Instruction bytes -/

/-- `fetch8()`: the byte at PC, PC advanced by one modulo 65536 (30_encoding.md R87). -/
def State.fetch8 (s : State) : Byte × State :=
  let r := s.memRead1 s.pc
  (r.1, { r.2 with pc := s.pc + 1 })

/-- `fetch16()`: two instruction bytes, low then high (30_encoding.md R87). -/
def State.fetch16 (s : State) : Word × State :=
  let lo := s.fetch8
  let hi := lo.2.fetch8
  (cat16 hi.1 lo.1, hi.2)

/-! ### The stack -/

/-- SP down by 2, then the word written there (10_state.md R31, 45_stack_io_control.md R230). -/
def State.push (s : State) (w : Word) : State :=
  { s with sp := s.sp - 2 }.memWrite2 (s.sp - 2) w

/-- The word at SP, then SP up by 2 (10_state.md R31, 45_stack_io_control.md R232). -/
def State.pop (s : State) : Word × State :=
  let r := s.memRead2 s.sp
  (r.1, { r.2 with sp := s.sp + 2 })

/-! ### The I/O ports -/

/-- How many resets an I/O history holds: the number of the bindings in force (R281). -/
def bindings (io : List IoEvent) : Nat := (io.filter fun ev => ev == .bound).length

/-- The number of the bindings in force. -/
def State.binding (s : State) : Nat := bindings s.io

/-- Whether an event reaches the handlers, under the bindings of the given number: an access does exactly
when its port has a handler for it, since an unmapped read returns 0 and an unmapped write is a no-op on every
handler's state (R71, R72); a reset binds the handlers anew (R281). -/
def reaches (n : Nat) : IoEvent → Bool
  | .input port _ => Config.readMapped n port
  | .output port _ => Config.writeMapped n port
  | .bound => true

/-- The part of an I/O history that reached the handlers, `n` resets having come before it: what a handler's
answer may depend on (R71, R72; log entry 15). -/
def handlerHistory (n : Nat) : List IoEvent → List IoEvent
  | [] => []
  | ev :: rest =>
    if reaches n ev then ev :: handlerHistory (n + bindings [ev]) rest
    else handlerHistory (n + bindings [ev]) rest

/-- What `IoRead(port)` returns: the handler's byte, or 0 from an unmapped port (R71). -/
def State.portByte (s : State) (port : Byte) : Byte :=
  if Config.readMapped s.binding port then Config.handlerRead (handlerHistory 0 s.io) port else 0

/-- `IoRead(port)`: the byte, and the event in the I/O history; AB and DB are not changed (R71, R73). -/
def State.ioRead (s : State) (port : Byte) : Byte × State :=
  (s.portByte port, { s with io := s.io ++ [.input port (s.portByte port)] })

/-- `IoWrite(port, v)`: a recorded event, which reaches a handler exactly when the port has one for writing
(`handlerHistory`); AB and DB are not changed (R72, R73, D11). -/
def State.ioWrite (s : State) (port v : Byte) : State :=
  { s with io := s.io ++ [.output port v] }

/-! ### The exceptional condition -/

/-- The undefined-opcode condition of 60_exceptions.md R252, in a state whose opcode fetch has happened:
PC already stands past the opcode byte, so the opcode's address is PC - 1 (log entry 7). It sets FAULT
and changes nothing else. There is no trap entry and no return from it (R262). -/
def State.raiseUndefined (s : State) (op : Byte) : State :=
  { s with faultMark := some { addr := s.pc - 1, opcode := op } }

end Sys2Proof.Machine
end

