-- ==== Sys2Proof/Machine/Operands.lean ====
section
/-! DEFINITION. The operand forms (30_encoding.md R83 to R86) and, over them, one shared operation per instruction rule of 41 to 45 and 60: the execute part of the rule's pseudocode, after the instruction's bytes have been fetched (log entry 8). The meanings of the families are one line each over these. -/

namespace Sys2Proof.Machine

/-! ### Operand forms -/

/-- The word in a pair of PUSH rp (R84). -/
def State.getStackPair (s : State) (rp : StackPair) : Word :=
  match rp with
  | .bc => s.bc
  | .de => s.de
  | .hl => s.hl

/-- Write a pair of POP rp (R84). -/
def State.setStackPair (s : State) (rp : StackPair) (w : Word) : State :=
  match rp with
  | .bc => s.setPair .bc w
  | .de => s.setPair .de w
  | .hl => s.setPair .hl w

/-- The address in a pair of LDAX or STAX (R84). -/
def State.getIndexPair (s : State) (rp : IndexPair) : Word :=
  match rp with
  | .bc => s.bc
  | .de => s.de

/-- `reg8(110)`: the byte at HL, read over the bus (R83). -/
def State.readM (s : State) : Byte × State := s.memRead1 s.hl

/-- `reg8(110) <- v`: the byte at HL, written over the bus (R83). -/
def State.writeM (s : State) (v : Byte) : State := s.memWrite1 s.hl v

/-! ### Data transfer (41_data_transfer.md) -/

/-- MOV r1,r2 (R120). -/
def moveRegReg (dst src : Reg) (s : State) : Result := .next (s.setReg dst (s.getReg src))

/-- MOV r,M (R121): HL is read before the register is written. -/
def loadReg (dst : Reg) (s : State) : Result :=
  let m := s.readM
  .next (m.2.setReg dst m.1)

/-- MOV M,r (R122). -/
def storeReg (src : Reg) (s : State) : Result := .next (s.writeM (s.getReg src))

/-- MVI r,d8 (R123). -/
def moveImm (dst : Reg) (d8 : Byte) (s : State) : Result := .next (s.setReg dst d8)

/-- MVI M,d8 (R124). -/
def storeImm (d8 : Byte) (s : State) : Result := .next (s.writeM d8)

/-- LXI rp,d16 (R125). -/
def loadPairImm (rp : Pair) (d16 : Word) (s : State) : Result := .next (s.setPair rp d16)

/-- LDA a16 (R126). -/
def loadDirect (a16 : Word) (s : State) : Result :=
  let m := s.memRead1 a16
  .next (m.2.setReg .a m.1)

/-- STA a16 (R127). -/
def storeDirect (a16 : Word) (s : State) : Result := .next (s.memWrite1 a16 s.a)

/-- LHLD a16 (R128). -/
def loadHlDirect (a16 : Word) (s : State) : Result :=
  let m := s.memRead2 a16
  .next (m.2.setHl m.1)

/-- SHLD a16 (R129). -/
def storeHlDirect (a16 : Word) (s : State) : Result := .next (s.memWrite2 a16 s.hl)

/-- LDAX rp (R130). -/
def loadIndexed (rp : IndexPair) (s : State) : Result :=
  let m := s.memRead1 (s.getIndexPair rp)
  .next (m.2.setReg .a m.1)

/-- STAX rp (R131). -/
def storeIndexed (rp : IndexPair) (s : State) : Result :=
  .next (s.memWrite1 (s.getIndexPair rp) s.a)

/-- XCHG (R132). -/
def exchangeDeHl (s : State) : Result :=
  .next { s with h := s.d, l := s.e, d := s.h, e := s.l }

/-! ### Arithmetic and logic (42_arithmetic.md, 43_logical.md) -/

/-- Apply an ALU operation to A and an operand byte: all five flags, and A unless it is the compare (R108). -/
def State.aluApply (s : State) (op : AluOp) (v : Byte) : State :=
  let r := alu s.cfg op s.a v s.flags.cy
  { s with a := if writesA op then r.res else s.a, flags := r.flags }

/-- ADD, ADC, SUB, SBB, ANA, XRA, ORA, CMP r (R140, R143, R146, R149, R170, R173, R176, R179). -/
def aluReg (op : AluOp) (src : Reg) (s : State) : Result := .next (s.aluApply op (s.getReg src))

/-- The same on M (R141, R144, R147, R150, R171, R174, R177, R180). -/
def aluMem (op : AluOp) (s : State) : Result :=
  let m := s.readM
  .next (m.2.aluApply op m.1)

/-- The immediate forms (R142, R145, R148, R151, R172, R175, R178, R181). -/
def aluImm (op : AluOp) (d8 : Byte) (s : State) : Result := .next (s.aluApply op d8)

/-- INR r (R152): CY unchanged. -/
def incReg (r : Reg) (s : State) : Result :=
  let x := inc8 (s.getReg r) s.flags.cy
  .next ({ s with flags := x.flags }.setReg r x.res)

/-- INR M (R153): the byte at HL read, then written. -/
def incMem (s : State) : Result :=
  let m := s.readM
  let x := inc8 m.1 s.flags.cy
  .next ({ m.2 with flags := x.flags }.writeM x.res)

/-- DCR r (R154): CY unchanged. -/
def decReg (r : Reg) (s : State) : Result :=
  let x := dec8 s.cfg.acSubMode (s.getReg r) s.flags.cy
  .next ({ s with flags := x.flags }.setReg r x.res)

/-- DCR M (R155): the byte at HL read, then written. -/
def decMem (s : State) : Result :=
  let m := s.readM
  let x := dec8 s.cfg.acSubMode m.1 s.flags.cy
  .next ({ m.2 with flags := x.flags }.writeM x.res)

/-- INX rp (R156): no flag. -/
def incPair (rp : Pair) (s : State) : Result := .next (s.setPair rp (s.getPair rp + 1))

/-- DCX rp (R157): no flag. -/
def decPair (rp : Pair) (s : State) : Result := .next (s.setPair rp (s.getPair rp - 1))

/-- Write CY alone. -/
def State.setCy (s : State) (cy : Bool) : State := { s with flags := { s.flags with cy := cy } }

/-- DAD rp (R158): CY only. -/
def addPair (rp : Pair) (s : State) : Result :=
  let r := add16 s.hl (s.getPair rp)
  .next ((s.setHl r.1).setCy r.2)

/-- DAA (R159). -/
def decimalAdjust (s : State) : Result :=
  let r := daa s.a s.flags.ac s.flags.cy
  .next { s with a := r.res, flags := r.flags }

/-- A bit as a byte, 0 or 1. -/
def bitByte (b : Bool) : Byte := BitVec.ofNat 8 b.toNat

/-- RLC (R182). -/
def rotateLeft (s : State) : Result :=
  let b7 := s.a.getLsbD 7
  .next ({ s with a := (s.a <<< 1) ||| bitByte b7 }.setCy b7)

/-- RRC (R183). -/
def rotateRight (s : State) : Result :=
  let b0 := s.a.getLsbD 0
  .next ({ s with a := (s.a >>> 1) ||| (bitByte b0 <<< 7) }.setCy b0)

/-- RAL (R184). -/
def rotateLeftCarry (s : State) : Result :=
  let b7 := s.a.getLsbD 7
  .next ({ s with a := (s.a <<< 1) ||| bitByte s.flags.cy }.setCy b7)

/-- RAR (R185). -/
def rotateRightCarry (s : State) : Result :=
  let b0 := s.a.getLsbD 0
  .next ({ s with a := (s.a >>> 1) ||| (bitByte s.flags.cy <<< 7) }.setCy b0)

/-- CMA (R186): no flag. -/
def complementA (s : State) : Result := .next { s with a := ~~~s.a }

/-- CMC (R187). -/
def complementCarry (s : State) : Result := .next (s.setCy (!s.flags.cy))

/-- STC (R188). -/
def setCarry (s : State) : Result := .next (s.setCy true)

/-! ### Branch, call, return, restart (44_branch.md) -/

/-- JMP a16 (R200). -/
def jump (a16 : Word) (s : State) : Result := .next { s with pc := a16 }

/-- Jccc a16 (R201). -/
def jumpIf (ccc : Cond) (a16 : Word) (s : State) : Result :=
  if s.flags.holds ccc then jump a16 s else .next s

/-- PCHL (R207). -/
def jumpHl (s : State) : Result := .next { s with pc := s.hl }

/-- CALL a16 (R202): PC holds the return address. -/
def callTo (a16 : Word) (s : State) : Result := .next { s.push s.pc with pc := a16 }

/-- Cccc a16 (R203). -/
def callIf (ccc : Cond) (a16 : Word) (s : State) : Result :=
  if s.flags.holds ccc then callTo a16 s else .next s

/-- RET (R204). -/
def returnTo (s : State) : Result :=
  let r := s.pop
  .next { r.2 with pc := r.1 }

/-- Rccc (R205). -/
def returnIf (ccc : Cond) (s : State) : Result :=
  if s.flags.holds ccc then returnTo s else .next s

/-- The restart vector 8*n (R206, 20_memory.md R64). -/
def restartVector (n : Fin 8) : Word := BitVec.ofNat 16 (8 * n.val)

/-- RST n (R206). -/
def restart (n : Fin 8) (s : State) : Result := callTo (restartVector n) s

/-! ### Stack, I/O, machine control (45_stack_io_control.md) -/

/-- PUSH rp (R230). -/
def pushPair (rp : StackPair) (s : State) : Result := .next (s.push (s.getStackPair rp))

/-- PUSH PSW (R231). -/
def pushAf (s : State) : Result := .next (s.push s.psw)

/-- POP rp (R232): the pair is written after both reads. -/
def popPair (rp : StackPair) (s : State) : Result :=
  let r := s.pop
  .next (r.2.setStackPair rp r.1)

/-- POP PSW (R233). -/
def popAf (s : State) : Result :=
  let r := s.pop
  .next (r.2.setPsw r.1)

/-- XTHL (R234): the word at SP read, then HL written there. -/
def exchangeTop (s : State) : Result :=
  let r := s.memRead2 s.sp
  .next ((r.2.memWrite2 s.sp s.hl).setHl r.1)

/-- SPHL (R235). -/
def loadSpHl (s : State) : Result := .next { s with sp := s.hl }

/-- IN d8 (R236). -/
def portIn (port : Byte) (s : State) : Result :=
  let r := s.ioRead port
  .next (r.2.setReg .a r.1)

/-- OUT d8 (R237). -/
def portOut (port : Byte) (s : State) : Result := .next (s.ioWrite port s.a)

/-- EI (R238): at once, with no delay (D6). -/
def enableInterrupts (s : State) : Result := .next { s with inte := true }

/-- DI (R239). -/
def disableInterrupts (s : State) : Result := .next { s with inte := false }

/-- HLT (R240, D7). -/
def halt (s : State) : Result := .next { s with halted := true }

/-- NOP (R241): nothing beyond the opcode fetch. -/
def noOperation (s : State) : Result := .next s

/-! ### The undefined opcode values (60_exceptions.md) -/

/-- The NOP that 0x08, 0x10, 0x18, 0x20, 0x28, 0x30 and 0x38 are to an Intel 8080 (R253). -/
def aliasNop (s : State) : Result := noOperation s

/-- The JMP a16 that 0xCB is to an Intel 8080: its two further bytes are fetched first (R253, R81). -/
def aliasJmp (s : State) : Result :=
  let a := s.fetch16
  jump a.1 a.2

/-- The RET that 0xD9 is to an Intel 8080 (R253). -/
def aliasRet (s : State) : Result := returnTo s

/-- The CALL a16 that 0xDD, 0xED and 0xFD are to an Intel 8080: two further bytes are fetched first (R253, R81). -/
def aliasCall (s : State) : Result :=
  let a := s.fetch16
  callTo a.1 a.2

/-- An undefined opcode value, by UNDEF_POLICY (R251 to R253). -/
def undefinedOpcode (op : Byte) (intel : State → Result) (s : State) : Result :=
  match s.cfg.undefPolicy with
  | .fault => .next (s.raiseUndefined op)
  | .intelAlias => intel s

end Sys2Proof.Machine
end

