-- ==== Sys2Proof/Machine/Arithmetic.lean ====
section
/-! DEFINITION. The arithmetic instructions (42_arithmetic.md R140 to R159), one meaning per row of the opcode table over the shared operations of Operands.lean. -/

namespace Sys2Proof.Machine

/-- INX B, 0x03 (R156). -/
def execInxB (s : State) : Result := incPair .bc s

/-- INR B, 0x04 (R152). -/
def execInrB (s : State) : Result := incReg .b s

/-- DCR B, 0x05 (R154). -/
def execDcrB (s : State) : Result := decReg .b s

/-- DAD B, 0x09 (R158). -/
def execDadB (s : State) : Result := addPair .bc s

/-- DCX B, 0x0B (R157). -/
def execDcxB (s : State) : Result := decPair .bc s

/-- INR C, 0x0C (R152). -/
def execInrC (s : State) : Result := incReg .c s

/-- DCR C, 0x0D (R154). -/
def execDcrC (s : State) : Result := decReg .c s

/-- INX D, 0x13 (R156). -/
def execInxD (s : State) : Result := incPair .de s

/-- INR D, 0x14 (R152). -/
def execInrD (s : State) : Result := incReg .d s

/-- DCR D, 0x15 (R154). -/
def execDcrD (s : State) : Result := decReg .d s

/-- DAD D, 0x19 (R158). -/
def execDadD (s : State) : Result := addPair .de s

/-- DCX D, 0x1B (R157). -/
def execDcxD (s : State) : Result := decPair .de s

/-- INR E, 0x1C (R152). -/
def execInrE (s : State) : Result := incReg .e s

/-- DCR E, 0x1D (R154). -/
def execDcrE (s : State) : Result := decReg .e s

/-- INX H, 0x23 (R156). -/
def execInxH (s : State) : Result := incPair .hl s

/-- INR H, 0x24 (R152). -/
def execInrH (s : State) : Result := incReg .h s

/-- DCR H, 0x25 (R154). -/
def execDcrH (s : State) : Result := decReg .h s

/-- DAA, 0x27 (R159). -/
def execDaa (s : State) : Result := decimalAdjust s

/-- DAD H, 0x29 (R158). -/
def execDadH (s : State) : Result := addPair .hl s

/-- DCX H, 0x2B (R157). -/
def execDcxH (s : State) : Result := decPair .hl s

/-- INR L, 0x2C (R152). -/
def execInrL (s : State) : Result := incReg .l s

/-- DCR L, 0x2D (R154). -/
def execDcrL (s : State) : Result := decReg .l s

/-- INX SP, 0x33 (R156). -/
def execInxSp (s : State) : Result := incPair .sp s

/-- INR M, 0x34 (R153). -/
def execInrM (s : State) : Result := incMem s

/-- DCR M, 0x35 (R155). -/
def execDcrM (s : State) : Result := decMem s

/-- DAD SP, 0x39 (R158). -/
def execDadSp (s : State) : Result := addPair .sp s

/-- DCX SP, 0x3B (R157). -/
def execDcxSp (s : State) : Result := decPair .sp s

/-- INR A, 0x3C (R152). -/
def execInrA (s : State) : Result := incReg .a s

/-- DCR A, 0x3D (R154). -/
def execDcrA (s : State) : Result := decReg .a s

/-- ADD B, 0x80 (R140). -/
def execAddB (s : State) : Result := aluReg .add .b s

/-- ADD C, 0x81 (R140). -/
def execAddC (s : State) : Result := aluReg .add .c s

/-- ADD D, 0x82 (R140). -/
def execAddD (s : State) : Result := aluReg .add .d s

/-- ADD E, 0x83 (R140). -/
def execAddE (s : State) : Result := aluReg .add .e s

/-- ADD H, 0x84 (R140). -/
def execAddH (s : State) : Result := aluReg .add .h s

/-- ADD L, 0x85 (R140). -/
def execAddL (s : State) : Result := aluReg .add .l s

/-- ADD M, 0x86 (R141). -/
def execAddM (s : State) : Result := aluMem .add s

/-- ADD A, 0x87 (R140). -/
def execAddA (s : State) : Result := aluReg .add .a s

/-- ADC B, 0x88 (R143). -/
def execAdcB (s : State) : Result := aluReg .adc .b s

/-- ADC C, 0x89 (R143). -/
def execAdcC (s : State) : Result := aluReg .adc .c s

/-- ADC D, 0x8A (R143). -/
def execAdcD (s : State) : Result := aluReg .adc .d s

/-- ADC E, 0x8B (R143). -/
def execAdcE (s : State) : Result := aluReg .adc .e s

/-- ADC H, 0x8C (R143). -/
def execAdcH (s : State) : Result := aluReg .adc .h s

/-- ADC L, 0x8D (R143). -/
def execAdcL (s : State) : Result := aluReg .adc .l s

/-- ADC M, 0x8E (R144). -/
def execAdcM (s : State) : Result := aluMem .adc s

/-- ADC A, 0x8F (R143). -/
def execAdcA (s : State) : Result := aluReg .adc .a s

/-- SUB B, 0x90 (R146). -/
def execSubB (s : State) : Result := aluReg .sub .b s

/-- SUB C, 0x91 (R146). -/
def execSubC (s : State) : Result := aluReg .sub .c s

/-- SUB D, 0x92 (R146). -/
def execSubD (s : State) : Result := aluReg .sub .d s

/-- SUB E, 0x93 (R146). -/
def execSubE (s : State) : Result := aluReg .sub .e s

/-- SUB H, 0x94 (R146). -/
def execSubH (s : State) : Result := aluReg .sub .h s

/-- SUB L, 0x95 (R146). -/
def execSubL (s : State) : Result := aluReg .sub .l s

/-- SUB M, 0x96 (R147). -/
def execSubM (s : State) : Result := aluMem .sub s

/-- SUB A, 0x97 (R146). -/
def execSubA (s : State) : Result := aluReg .sub .a s

/-- SBB B, 0x98 (R149). -/
def execSbbB (s : State) : Result := aluReg .sbb .b s

/-- SBB C, 0x99 (R149). -/
def execSbbC (s : State) : Result := aluReg .sbb .c s

/-- SBB D, 0x9A (R149). -/
def execSbbD (s : State) : Result := aluReg .sbb .d s

/-- SBB E, 0x9B (R149). -/
def execSbbE (s : State) : Result := aluReg .sbb .e s

/-- SBB H, 0x9C (R149). -/
def execSbbH (s : State) : Result := aluReg .sbb .h s

/-- SBB L, 0x9D (R149). -/
def execSbbL (s : State) : Result := aluReg .sbb .l s

/-- SBB M, 0x9E (R150). -/
def execSbbM (s : State) : Result := aluMem .sbb s

/-- SBB A, 0x9F (R149). -/
def execSbbA (s : State) : Result := aluReg .sbb .a s

/-- ADI d8, 0xC6 (R142). -/
def execAdi (d8 : Byte) (s : State) : Result := aluImm .add d8 s

/-- ACI d8, 0xCE (R145). -/
def execAci (d8 : Byte) (s : State) : Result := aluImm .adc d8 s

/-- SUI d8, 0xD6 (R148). -/
def execSui (d8 : Byte) (s : State) : Result := aluImm .sub d8 s

/-- SBI d8, 0xDE (R151). -/
def execSbi (d8 : Byte) (s : State) : Result := aluImm .sbb d8 s

end Sys2Proof.Machine
end

