-- ==== Sys2Proof/Machine/Branch.lean ====
section
/-! DEFINITION. The branch, call, return and restart instructions (44_branch.md R200 to R207), one meaning per row of the opcode table over the shared operations of Operands.lean. -/

namespace Sys2Proof.Machine

/-- RNZ, 0xC0 (R205). -/
def execRnz (s : State) : Result := returnIf .nz s

/-- JNZ a16, 0xC2 (R201). -/
def execJnz (a16 : Word) (s : State) : Result := jumpIf .nz a16 s

/-- JMP a16, 0xC3 (R200). -/
def execJmp (a16 : Word) (s : State) : Result := jump a16 s

/-- CNZ a16, 0xC4 (R203). -/
def execCnz (a16 : Word) (s : State) : Result := callIf .nz a16 s

/-- RST 0, 0xC7 (R206). -/
def execRst0 (s : State) : Result := restart 0 s

/-- RZ, 0xC8 (R205). -/
def execRz (s : State) : Result := returnIf .z s

/-- RET, 0xC9 (R204). -/
def execRet (s : State) : Result := returnTo s

/-- JZ a16, 0xCA (R201). -/
def execJz (a16 : Word) (s : State) : Result := jumpIf .z a16 s

/-- CZ a16, 0xCC (R203). -/
def execCz (a16 : Word) (s : State) : Result := callIf .z a16 s

/-- CALL a16, 0xCD (R202). -/
def execCall (a16 : Word) (s : State) : Result := callTo a16 s

/-- RST 1, 0xCF (R206). -/
def execRst1 (s : State) : Result := restart 1 s

/-- RNC, 0xD0 (R205). -/
def execRnc (s : State) : Result := returnIf .nc s

/-- JNC a16, 0xD2 (R201). -/
def execJnc (a16 : Word) (s : State) : Result := jumpIf .nc a16 s

/-- CNC a16, 0xD4 (R203). -/
def execCnc (a16 : Word) (s : State) : Result := callIf .nc a16 s

/-- RST 2, 0xD7 (R206). -/
def execRst2 (s : State) : Result := restart 2 s

/-- RC, 0xD8 (R205). -/
def execRc (s : State) : Result := returnIf .c s

/-- JC a16, 0xDA (R201). -/
def execJc (a16 : Word) (s : State) : Result := jumpIf .c a16 s

/-- CC a16, 0xDC (R203). -/
def execCc (a16 : Word) (s : State) : Result := callIf .c a16 s

/-- RST 3, 0xDF (R206). -/
def execRst3 (s : State) : Result := restart 3 s

/-- RPO, 0xE0 (R205). -/
def execRpo (s : State) : Result := returnIf .po s

/-- JPO a16, 0xE2 (R201). -/
def execJpo (a16 : Word) (s : State) : Result := jumpIf .po a16 s

/-- CPO a16, 0xE4 (R203). -/
def execCpo (a16 : Word) (s : State) : Result := callIf .po a16 s

/-- RST 4, 0xE7 (R206). -/
def execRst4 (s : State) : Result := restart 4 s

/-- RPE, 0xE8 (R205). -/
def execRpe (s : State) : Result := returnIf .pe s

/-- PCHL, 0xE9 (R207). -/
def execPchl (s : State) : Result := jumpHl s

/-- JPE a16, 0xEA (R201). -/
def execJpe (a16 : Word) (s : State) : Result := jumpIf .pe a16 s

/-- CPE a16, 0xEC (R203). -/
def execCpe (a16 : Word) (s : State) : Result := callIf .pe a16 s

/-- RST 5, 0xEF (R206). -/
def execRst5 (s : State) : Result := restart 5 s

/-- RP, 0xF0 (R205). -/
def execRp (s : State) : Result := returnIf .p s

/-- JP a16, 0xF2 (R201). -/
def execJp (a16 : Word) (s : State) : Result := jumpIf .p a16 s

/-- CP a16, 0xF4 (R203). -/
def execCp (a16 : Word) (s : State) : Result := callIf .p a16 s

/-- RST 6, 0xF7 (R206). -/
def execRst6 (s : State) : Result := restart 6 s

/-- RM, 0xF8 (R205). -/
def execRm (s : State) : Result := returnIf .m s

/-- JM a16, 0xFA (R201). -/
def execJm (a16 : Word) (s : State) : Result := jumpIf .m a16 s

/-- CM a16, 0xFC (R203). -/
def execCm (a16 : Word) (s : State) : Result := callIf .m a16 s

/-- RST 7, 0xFF (R206). -/
def execRst7 (s : State) : Result := restart 7 s

end Sys2Proof.Machine
end

