-- ==== Sys2Proof/Machine/DataTransfer.lean ====
section
/-! DEFINITION. The data transfer instructions (41_data_transfer.md R120 to R132), one meaning per row of the opcode table over the shared operations of Operands.lean. A meaning starts after the instruction's bytes have been fetched (log entry 8). -/

namespace Sys2Proof.Machine

/-- LXI B,d16, 0x01 (R125). -/
def execLxiB (d16 : Word) (s : State) : Result := loadPairImm .bc d16 s

/-- STAX B, 0x02 (R131). -/
def execStaxB (s : State) : Result := storeIndexed .bc s

/-- MVI B,d8, 0x06 (R123). -/
def execMviB (d8 : Byte) (s : State) : Result := moveImm .b d8 s

/-- LDAX B, 0x0A (R130). -/
def execLdaxB (s : State) : Result := loadIndexed .bc s

/-- MVI C,d8, 0x0E (R123). -/
def execMviC (d8 : Byte) (s : State) : Result := moveImm .c d8 s

/-- LXI D,d16, 0x11 (R125). -/
def execLxiD (d16 : Word) (s : State) : Result := loadPairImm .de d16 s

/-- STAX D, 0x12 (R131). -/
def execStaxD (s : State) : Result := storeIndexed .de s

/-- MVI D,d8, 0x16 (R123). -/
def execMviD (d8 : Byte) (s : State) : Result := moveImm .d d8 s

/-- LDAX D, 0x1A (R130). -/
def execLdaxD (s : State) : Result := loadIndexed .de s

/-- MVI E,d8, 0x1E (R123). -/
def execMviE (d8 : Byte) (s : State) : Result := moveImm .e d8 s

/-- LXI H,d16, 0x21 (R125). -/
def execLxiH (d16 : Word) (s : State) : Result := loadPairImm .hl d16 s

/-- SHLD a16, 0x22 (R129). -/
def execShld (a16 : Word) (s : State) : Result := storeHlDirect a16 s

/-- MVI H,d8, 0x26 (R123). -/
def execMviH (d8 : Byte) (s : State) : Result := moveImm .h d8 s

/-- LHLD a16, 0x2A (R128). -/
def execLhld (a16 : Word) (s : State) : Result := loadHlDirect a16 s

/-- MVI L,d8, 0x2E (R123). -/
def execMviL (d8 : Byte) (s : State) : Result := moveImm .l d8 s

/-- LXI SP,d16, 0x31 (R125). -/
def execLxiSp (d16 : Word) (s : State) : Result := loadPairImm .sp d16 s

/-- STA a16, 0x32 (R127). -/
def execSta (a16 : Word) (s : State) : Result := storeDirect a16 s

/-- MVI M,d8, 0x36 (R124). -/
def execMviM (d8 : Byte) (s : State) : Result := storeImm d8 s

/-- LDA a16, 0x3A (R126). -/
def execLda (a16 : Word) (s : State) : Result := loadDirect a16 s

/-- MVI A,d8, 0x3E (R123). -/
def execMviA (d8 : Byte) (s : State) : Result := moveImm .a d8 s

/-- MOV B,B, 0x40 (R120). -/
def execMovBB (s : State) : Result := moveRegReg .b .b s

/-- MOV B,C, 0x41 (R120). -/
def execMovBC (s : State) : Result := moveRegReg .b .c s

/-- MOV B,D, 0x42 (R120). -/
def execMovBD (s : State) : Result := moveRegReg .b .d s

/-- MOV B,E, 0x43 (R120). -/
def execMovBE (s : State) : Result := moveRegReg .b .e s

/-- MOV B,H, 0x44 (R120). -/
def execMovBH (s : State) : Result := moveRegReg .b .h s

/-- MOV B,L, 0x45 (R120). -/
def execMovBL (s : State) : Result := moveRegReg .b .l s

/-- MOV B,M, 0x46 (R121). -/
def execMovBM (s : State) : Result := loadReg .b s

/-- MOV B,A, 0x47 (R120). -/
def execMovBA (s : State) : Result := moveRegReg .b .a s

/-- MOV C,B, 0x48 (R120). -/
def execMovCB (s : State) : Result := moveRegReg .c .b s

/-- MOV C,C, 0x49 (R120). -/
def execMovCC (s : State) : Result := moveRegReg .c .c s

/-- MOV C,D, 0x4A (R120). -/
def execMovCD (s : State) : Result := moveRegReg .c .d s

/-- MOV C,E, 0x4B (R120). -/
def execMovCE (s : State) : Result := moveRegReg .c .e s

/-- MOV C,H, 0x4C (R120). -/
def execMovCH (s : State) : Result := moveRegReg .c .h s

/-- MOV C,L, 0x4D (R120). -/
def execMovCL (s : State) : Result := moveRegReg .c .l s

/-- MOV C,M, 0x4E (R121). -/
def execMovCM (s : State) : Result := loadReg .c s

/-- MOV C,A, 0x4F (R120). -/
def execMovCA (s : State) : Result := moveRegReg .c .a s

/-- MOV D,B, 0x50 (R120). -/
def execMovDB (s : State) : Result := moveRegReg .d .b s

/-- MOV D,C, 0x51 (R120). -/
def execMovDC (s : State) : Result := moveRegReg .d .c s

/-- MOV D,D, 0x52 (R120). -/
def execMovDD (s : State) : Result := moveRegReg .d .d s

/-- MOV D,E, 0x53 (R120). -/
def execMovDE (s : State) : Result := moveRegReg .d .e s

/-- MOV D,H, 0x54 (R120). -/
def execMovDH (s : State) : Result := moveRegReg .d .h s

/-- MOV D,L, 0x55 (R120). -/
def execMovDL (s : State) : Result := moveRegReg .d .l s

/-- MOV D,M, 0x56 (R121). -/
def execMovDM (s : State) : Result := loadReg .d s

/-- MOV D,A, 0x57 (R120). -/
def execMovDA (s : State) : Result := moveRegReg .d .a s

/-- MOV E,B, 0x58 (R120). -/
def execMovEB (s : State) : Result := moveRegReg .e .b s

/-- MOV E,C, 0x59 (R120). -/
def execMovEC (s : State) : Result := moveRegReg .e .c s

/-- MOV E,D, 0x5A (R120). -/
def execMovED (s : State) : Result := moveRegReg .e .d s

/-- MOV E,E, 0x5B (R120). -/
def execMovEE (s : State) : Result := moveRegReg .e .e s

/-- MOV E,H, 0x5C (R120). -/
def execMovEH (s : State) : Result := moveRegReg .e .h s

/-- MOV E,L, 0x5D (R120). -/
def execMovEL (s : State) : Result := moveRegReg .e .l s

/-- MOV E,M, 0x5E (R121). -/
def execMovEM (s : State) : Result := loadReg .e s

/-- MOV E,A, 0x5F (R120). -/
def execMovEA (s : State) : Result := moveRegReg .e .a s

/-- MOV H,B, 0x60 (R120). -/
def execMovHB (s : State) : Result := moveRegReg .h .b s

/-- MOV H,C, 0x61 (R120). -/
def execMovHC (s : State) : Result := moveRegReg .h .c s

/-- MOV H,D, 0x62 (R120). -/
def execMovHD (s : State) : Result := moveRegReg .h .d s

/-- MOV H,E, 0x63 (R120). -/
def execMovHE (s : State) : Result := moveRegReg .h .e s

/-- MOV H,H, 0x64 (R120). -/
def execMovHH (s : State) : Result := moveRegReg .h .h s

/-- MOV H,L, 0x65 (R120). -/
def execMovHL (s : State) : Result := moveRegReg .h .l s

/-- MOV H,M, 0x66 (R121). -/
def execMovHM (s : State) : Result := loadReg .h s

/-- MOV H,A, 0x67 (R120). -/
def execMovHA (s : State) : Result := moveRegReg .h .a s

/-- MOV L,B, 0x68 (R120). -/
def execMovLB (s : State) : Result := moveRegReg .l .b s

/-- MOV L,C, 0x69 (R120). -/
def execMovLC (s : State) : Result := moveRegReg .l .c s

/-- MOV L,D, 0x6A (R120). -/
def execMovLD (s : State) : Result := moveRegReg .l .d s

/-- MOV L,E, 0x6B (R120). -/
def execMovLE (s : State) : Result := moveRegReg .l .e s

/-- MOV L,H, 0x6C (R120). -/
def execMovLH (s : State) : Result := moveRegReg .l .h s

/-- MOV L,L, 0x6D (R120). -/
def execMovLL (s : State) : Result := moveRegReg .l .l s

/-- MOV L,M, 0x6E (R121). -/
def execMovLM (s : State) : Result := loadReg .l s

/-- MOV L,A, 0x6F (R120). -/
def execMovLA (s : State) : Result := moveRegReg .l .a s

/-- MOV M,B, 0x70 (R122). -/
def execMovMB (s : State) : Result := storeReg .b s

/-- MOV M,C, 0x71 (R122). -/
def execMovMC (s : State) : Result := storeReg .c s

/-- MOV M,D, 0x72 (R122). -/
def execMovMD (s : State) : Result := storeReg .d s

/-- MOV M,E, 0x73 (R122). -/
def execMovME (s : State) : Result := storeReg .e s

/-- MOV M,H, 0x74 (R122). -/
def execMovMH (s : State) : Result := storeReg .h s

/-- MOV M,L, 0x75 (R122). -/
def execMovML (s : State) : Result := storeReg .l s

/-- MOV M,A, 0x77 (R122). -/
def execMovMA (s : State) : Result := storeReg .a s

/-- MOV A,B, 0x78 (R120). -/
def execMovAB (s : State) : Result := moveRegReg .a .b s

/-- MOV A,C, 0x79 (R120). -/
def execMovAC (s : State) : Result := moveRegReg .a .c s

/-- MOV A,D, 0x7A (R120). -/
def execMovAD (s : State) : Result := moveRegReg .a .d s

/-- MOV A,E, 0x7B (R120). -/
def execMovAE (s : State) : Result := moveRegReg .a .e s

/-- MOV A,H, 0x7C (R120). -/
def execMovAH (s : State) : Result := moveRegReg .a .h s

/-- MOV A,L, 0x7D (R120). -/
def execMovAL (s : State) : Result := moveRegReg .a .l s

/-- MOV A,M, 0x7E (R121). -/
def execMovAM (s : State) : Result := loadReg .a s

/-- MOV A,A, 0x7F (R120). -/
def execMovAA (s : State) : Result := moveRegReg .a .a s

/-- XCHG, 0xEB (R132). -/
def execXchg (s : State) : Result := exchangeDeHl s

end Sys2Proof.Machine
end

