-- ==== Sys2Proof/Machine/Logical.lean ====
section
/-! DEFINITION. The logical, compare, rotate and carry instructions (43_logical.md R170 to R188), one meaning per row of the opcode table over the shared operations of Operands.lean. -/

namespace Sys2Proof.Machine

/-- RLC, 0x07 (R182). -/
def execRlc (s : State) : Result := rotateLeft s

/-- RRC, 0x0F (R183). -/
def execRrc (s : State) : Result := rotateRight s

/-- RAL, 0x17 (R184). -/
def execRal (s : State) : Result := rotateLeftCarry s

/-- RAR, 0x1F (R185). -/
def execRar (s : State) : Result := rotateRightCarry s

/-- CMA, 0x2F (R186). -/
def execCma (s : State) : Result := complementA s

/-- STC, 0x37 (R188). -/
def execStc (s : State) : Result := setCarry s

/-- CMC, 0x3F (R187). -/
def execCmc (s : State) : Result := complementCarry s

/-- ANA B, 0xA0 (R170). -/
def execAnaB (s : State) : Result := aluReg .ana .b s

/-- ANA C, 0xA1 (R170). -/
def execAnaC (s : State) : Result := aluReg .ana .c s

/-- ANA D, 0xA2 (R170). -/
def execAnaD (s : State) : Result := aluReg .ana .d s

/-- ANA E, 0xA3 (R170). -/
def execAnaE (s : State) : Result := aluReg .ana .e s

/-- ANA H, 0xA4 (R170). -/
def execAnaH (s : State) : Result := aluReg .ana .h s

/-- ANA L, 0xA5 (R170). -/
def execAnaL (s : State) : Result := aluReg .ana .l s

/-- ANA M, 0xA6 (R171). -/
def execAnaM (s : State) : Result := aluMem .ana s

/-- ANA A, 0xA7 (R170). -/
def execAnaA (s : State) : Result := aluReg .ana .a s

/-- XRA B, 0xA8 (R173). -/
def execXraB (s : State) : Result := aluReg .xra .b s

/-- XRA C, 0xA9 (R173). -/
def execXraC (s : State) : Result := aluReg .xra .c s

/-- XRA D, 0xAA (R173). -/
def execXraD (s : State) : Result := aluReg .xra .d s

/-- XRA E, 0xAB (R173). -/
def execXraE (s : State) : Result := aluReg .xra .e s

/-- XRA H, 0xAC (R173). -/
def execXraH (s : State) : Result := aluReg .xra .h s

/-- XRA L, 0xAD (R173). -/
def execXraL (s : State) : Result := aluReg .xra .l s

/-- XRA M, 0xAE (R174). -/
def execXraM (s : State) : Result := aluMem .xra s

/-- XRA A, 0xAF (R173). -/
def execXraA (s : State) : Result := aluReg .xra .a s

/-- ORA B, 0xB0 (R176). -/
def execOraB (s : State) : Result := aluReg .ora .b s

/-- ORA C, 0xB1 (R176). -/
def execOraC (s : State) : Result := aluReg .ora .c s

/-- ORA D, 0xB2 (R176). -/
def execOraD (s : State) : Result := aluReg .ora .d s

/-- ORA E, 0xB3 (R176). -/
def execOraE (s : State) : Result := aluReg .ora .e s

/-- ORA H, 0xB4 (R176). -/
def execOraH (s : State) : Result := aluReg .ora .h s

/-- ORA L, 0xB5 (R176). -/
def execOraL (s : State) : Result := aluReg .ora .l s

/-- ORA M, 0xB6 (R177). -/
def execOraM (s : State) : Result := aluMem .ora s

/-- ORA A, 0xB7 (R176). -/
def execOraA (s : State) : Result := aluReg .ora .a s

/-- CMP B, 0xB8 (R179). -/
def execCmpB (s : State) : Result := aluReg .cmp .b s

/-- CMP C, 0xB9 (R179). -/
def execCmpC (s : State) : Result := aluReg .cmp .c s

/-- CMP D, 0xBA (R179). -/
def execCmpD (s : State) : Result := aluReg .cmp .d s

/-- CMP E, 0xBB (R179). -/
def execCmpE (s : State) : Result := aluReg .cmp .e s

/-- CMP H, 0xBC (R179). -/
def execCmpH (s : State) : Result := aluReg .cmp .h s

/-- CMP L, 0xBD (R179). -/
def execCmpL (s : State) : Result := aluReg .cmp .l s

/-- CMP M, 0xBE (R180). -/
def execCmpM (s : State) : Result := aluMem .cmp s

/-- CMP A, 0xBF (R179). -/
def execCmpA (s : State) : Result := aluReg .cmp .a s

/-- ANI d8, 0xE6 (R172). -/
def execAni (d8 : Byte) (s : State) : Result := aluImm .ana d8 s

/-- XRI d8, 0xEE (R175). -/
def execXri (d8 : Byte) (s : State) : Result := aluImm .xra d8 s

/-- ORI d8, 0xF6 (R178). -/
def execOri (d8 : Byte) (s : State) : Result := aluImm .ora d8 s

/-- CPI d8, 0xFE (R181). -/
def execCpi (d8 : Byte) (s : State) : Result := aluImm .cmp d8 s

end Sys2Proof.Machine
end

