-- ==== Sys2Proof/Machine/StackIoControl.lean ====
section
/-! DEFINITION. The stack, I/O and machine-control instructions (45_stack_io_control.md R230 to R241), one meaning per row of the opcode table over the shared operations of Operands.lean. -/

namespace Sys2Proof.Machine

/-- NOP, 0x00 (R241). -/
def execNop (s : State) : Result := noOperation s

/-- HLT, 0x76 (R240). -/
def execHlt (s : State) : Result := halt s

/-- POP B, 0xC1 (R232). -/
def execPopB (s : State) : Result := popPair .bc s

/-- PUSH B, 0xC5 (R230). -/
def execPushB (s : State) : Result := pushPair .bc s

/-- POP D, 0xD1 (R232). -/
def execPopD (s : State) : Result := popPair .de s

/-- OUT d8, 0xD3 (R237). -/
def execOutPort (d8 : Byte) (s : State) : Result := portOut d8 s

/-- PUSH D, 0xD5 (R230). -/
def execPushD (s : State) : Result := pushPair .de s

/-- IN d8, 0xDB (R236). -/
def execInPort (d8 : Byte) (s : State) : Result := portIn d8 s

/-- POP H, 0xE1 (R232). -/
def execPopH (s : State) : Result := popPair .hl s

/-- XTHL, 0xE3 (R234). -/
def execXthl (s : State) : Result := exchangeTop s

/-- PUSH H, 0xE5 (R230). -/
def execPushH (s : State) : Result := pushPair .hl s

/-- POP PSW, 0xF1 (R233). -/
def execPopPsw (s : State) : Result := popAf s

/-- DI, 0xF3 (R239). -/
def execDi (s : State) : Result := disableInterrupts s

/-- PUSH PSW, 0xF5 (R231). -/
def execPushPsw (s : State) : Result := pushAf s

/-- SPHL, 0xF9 (R235). -/
def execSphl (s : State) : Result := loadSpHl s

/-- EI, 0xFB (R238). -/
def execEi (s : State) : Result := enableInterrupts s

end Sys2Proof.Machine
end

