-- ==== Sys2Proof/Machine/Undefined.lean ====
section
/-! DEFINITION. The twelve undefined opcode values (60_exceptions.md R251 to R253), one meaning per row of the opcode table: under UNDEF_POLICY = fault the FAULT mark, under intel_alias the Intel 8080's own behaviour. -/

namespace Sys2Proof.Machine

/-- Undefined opcode 0x08 (R252); Intel alias NOP (R253). -/
def execUndef08 (s : State) : Result := undefinedOpcode 0x08 aliasNop s

/-- Undefined opcode 0x10 (R252); Intel alias NOP (R253). -/
def execUndef10 (s : State) : Result := undefinedOpcode 0x10 aliasNop s

/-- Undefined opcode 0x18 (R252); Intel alias NOP (R253). -/
def execUndef18 (s : State) : Result := undefinedOpcode 0x18 aliasNop s

/-- Undefined opcode 0x20 (R252); Intel alias NOP (R253). -/
def execUndef20 (s : State) : Result := undefinedOpcode 0x20 aliasNop s

/-- Undefined opcode 0x28 (R252); Intel alias NOP (R253). -/
def execUndef28 (s : State) : Result := undefinedOpcode 0x28 aliasNop s

/-- Undefined opcode 0x30 (R252); Intel alias NOP (R253). -/
def execUndef30 (s : State) : Result := undefinedOpcode 0x30 aliasNop s

/-- Undefined opcode 0x38 (R252); Intel alias NOP (R253). -/
def execUndef38 (s : State) : Result := undefinedOpcode 0x38 aliasNop s

/-- Undefined opcode 0xCB (R252); Intel alias JMP (R253). -/
def execUndefCB (s : State) : Result := undefinedOpcode 0xCB aliasJmp s

/-- Undefined opcode 0xD9 (R252); Intel alias RET (R253). -/
def execUndefD9 (s : State) : Result := undefinedOpcode 0xD9 aliasRet s

/-- Undefined opcode 0xDD (R252); Intel alias CALL (R253). -/
def execUndefDD (s : State) : Result := undefinedOpcode 0xDD aliasCall s

/-- Undefined opcode 0xED (R252); Intel alias CALL (R253). -/
def execUndefED (s : State) : Result := undefinedOpcode 0xED aliasCall s

/-- Undefined opcode 0xFD (R252); Intel alias CALL (R253). -/
def execUndefFD (s : State) : Result := undefinedOpcode 0xFD aliasCall s

end Sys2Proof.Machine
end

