-- ==== Sys2Proof/Machine/Fetch.lean ====
section
/-! DEFINITION. Fetching an instruction's bytes over the bus (30_encoding.md R87, R81; 20_memory.md R57, R69). -/

namespace Sys2Proof.Machine

/-- `op <- fetch8(); IR <- op` (R87, R287). -/
def State.fetchOpcode (s : State) : Byte × State :=
  let r := s.fetch8
  (r.1, { r.2 with ir := r.1 })

/-- Fetch the opcode, then the immediate bytes of its format, all before any data access (R81, R87, R69). -/
def State.fetchInstr (s : State) : Instr × State :=
  let op := s.fetchOpcode
  match decodeOpcode op.1 with
  | .op f => (f.instr, op.2)
  | .opD8 f =>
    let d8 := op.2.fetch8
    ((f d8.1).instr, d8.2)
  | .opA16 f =>
    let w := op.2.fetch16
    ((f w.1).instr, w.2)

/-- Put bytes into memory from an address on, wrapping from 0xFFFF to 0x0000. -/
def placeBytes (m : Memory) (addr : Word) : List Byte → Memory
  | [] => m
  | v :: rest => placeBytes (m.write8 addr.toNat v) (addr + 1) rest

/-- The three bytes at PC, as many as the longest instruction has (R80). -/
def State.bytesAtPc (s : State) : List Byte :=
  [s.byteAt s.pc, s.byteAt (s.pc + 1), s.byteAt (s.pc + 2)]

end Sys2Proof.Machine
end

