-- ==== Sys2Proof/Machine/Step.lean ====
section
/-! DEFINITION. One step of the machine (70_reset_and_hazards.md R287, R288), and the state in which the next step runs a given word of the opcode table. -/

namespace Sys2Proof.Machine

/-- One step (R287). A faulted state does not step: the outcome the spec calls Stopped. A halted state
steps to itself: the outcome the spec calls Halted (R288). Every other state fetches one instruction
and executes it. -/
def step (s : State) : Host.Outcome State Fault Refusal :=
  match s.faultMark with
  | some u => .fault (.stopped u.addr u.opcode)
  | none =>
    if s.halted then .next s
    else exec s.fetchInstr.1 s.fetchInstr.2

/-- `s` with the instruction that a word of the opcode table stands for placed at PC, three bytes, the
bits above `nbits` zero, and neither halted nor faulted, so that the next step fetches it (log entry 9). -/
def State.withFetchWord (s : State) (nbits w : Nat) : State :=
  { s with
    mem := placeBytes s.mem s.pc (tableBytes nbits w)
    halted := false
    faultMark := none }

end Sys2Proof.Machine
end

