-- ==== Sys2Proof/Machine/Panel.lean ====
section
/-! DEFINITION. The host's interactions with the core (70_reset_and_hazards.md R280 to R295): reset, the panel operations, image loading, and the outcome a step reports. They happen only between steps (R294, D19). -/

namespace Sys2Proof.Machine

/-- `reset` (R280): all core state at its reset value, memory unchanged (D15), the parameters unchanged,
and the collaborators bound anew, which the I/O history records (R281, log entry 13). -/
def State.hostReset (s : State) : State :=
  { State.reset with mem := s.mem, cfg := s.cfg, io := s.io ++ [.bound] }

/-- `deposit(data)` (R290): `MemWrite(AB, 1, data)`. -/
def State.deposit (s : State) (data : Byte) : State := s.memWrite1 s.ab data

/-- `deposit_next(data)` (R291): the write, then AB up by one modulo 65536. -/
def State.depositNext (s : State) (data : Byte) : State :=
  { s.memWrite1 s.ab data with ab := s.ab + 1 }

/-- `examine(address, set_entry)` (R292). -/
def State.examine (s : State) (address : Word) (setEntry : Bool) : State :=
  { (s.memRead1 address).2 with pc := if setEntry then address else s.pc }

/-- `examine_next` (R293): AB up by one modulo 65536, then DB reloaded. -/
def State.examineNext (s : State) : State := (s.memRead1 (s.ab + 1)).2

/-- Image loading (R282, R295): the adapter outside the core puts bytes into memory between steps, and
touches no core state. -/
def State.loadImage (s : State) (address : Word) (bytes : List Byte) : State :=
  { s with mem := placeBytes s.mem address bytes }

/-- What the host can do to the core between steps (R295). -/
inductive HostOp where
  | reset
  | deposit (data : Byte)
  | depositNext (data : Byte)
  | examine (address : Word) (setEntry : Bool)
  | examineNext
  | loadImage (address : Word) (bytes : List Byte)
  deriving DecidableEq, Repr

/-- The core after a host interaction (R295). -/
def State.hostDo (s : State) (op : HostOp) : State :=
  match op with
  | .reset => s.hostReset
  | .deposit data => s.deposit data
  | .depositNext data => s.depositNext data
  | .examine address setEntry => s.examine address setEntry
  | .examineNext => s.examineNext
  | .loadImage address bytes => s.loadImage address bytes

/-- The outcomes a step reports to the host (R287, R295). -/
inductive StepReport where
  | ran | halted | faulted | stopped
  deriving DecidableEq, Repr

/-- What the step of a state reports (R287): Stopped in a faulted state, Halted in a halted one, Faulted
when the step sets FAULT, Ran otherwise. -/
def State.stepReport (s : State) : StepReport :=
  match step s with
  | .fault _ => .stopped
  | .refused _ => .stopped
  | .next t =>
    if s.halted then .halted
    else if t.faultMark.isSome then .faulted
    else .ran

end Sys2Proof.Machine
end

