-- ==== Sys2Proof/Safety.lean ====
section
/-! DEFINITION. The terms in which claims are made: a running state, the end of a run (70_reset_and_hazards.md R289), the control invariant, and the footprint of each instruction rule: the flags, registers and memory bytes it may write (10_state.md R29, R31; 20_memory.md R61), as the spec's tables give them. -/

namespace Sys2Proof

open Machine

/-- The state runs: FAULT is none and HALTED is false, so a step fetches (R287). -/
def Machine.State.Running (s : State) : Prop := s.faultMark = none ∧ s.halted = false

/-- How a run can end (R289). -/
inductive RunEnd where
  | normal | abnormal
  deriving DecidableEq, Repr

/-- Whether a run ends at this state (R289): normally when HALTED, abnormally when FAULT is set. -/
def Machine.State.runEnd (s : State) : Option RunEnd :=
  if s.faultMark.isSome then some .abnormal else if s.halted then some .normal else none

/-- The value of an undefined opcode (R89). -/
def UndefOp.byte : UndefOp → Byte
  | .u08 => 0x08
  | .u10 => 0x10
  | .u18 => 0x18
  | .u20 => 0x20
  | .u28 => 0x28
  | .u30 => 0x30
  | .u38 => 0x38
  | .uCB => 0xCB
  | .uD9 => 0xD9
  | .uDD => 0xDD
  | .uED => 0xED
  | .uFD => 0xFD

/-- The twelve undefined opcode values (R89). -/
def undefinedOpcodes : List Byte :=
  [0x08, 0x10, 0x18, 0x20, 0x28, 0x30, 0x38, 0xCB, 0xD9, 0xDD, 0xED, 0xFD]

/-- A FAULT mark means what R252 says it means: the policy is fault, the opcode is an undefined value and
is the current opcode, PC stands past it, and the core is not halted (R261). A halted core has fetched an
HLT last (R240). -/
structure ControlInv (s : State) : Prop where
  faultPolicy : ∀ u, s.faultMark = some u → s.cfg.undefPolicy = .fault
  faultOpcode : ∀ u, s.faultMark = some u → u.opcode ∈ undefinedOpcodes ∧ s.ir = u.opcode
  faultPc     : ∀ u, s.faultMark = some u → s.pc = u.addr + 1
  faultRuns   : ∀ u, s.faultMark = some u → s.halted = false
  haltOpcode  : s.halted = true → s.ir = 0x76

/-- The flags that a rule may write (R29). -/
inductive FlagSet where
  /-- no flag -/
  | none
  /-- CY alone: DAD, the rotates, STC, CMC -/
  | carry
  /-- all but CY: INR, DCR -/
  | allButCarry
  /-- all five -/
  | all
  deriving DecidableEq, Repr

/-- The table of R29: every instruction not in it leaves all five flags unchanged. -/
def Form.flagsWritten : Form → FlagSet
  | .aluR _ _ | .aluM _ | .aluI _ _ | .daa | .popPsw => .all
  | .inrR _ | .inrM | .dcrR _ | .dcrM => .allButCarry
  | .dad _ | .rlc | .rrc | .ral | .rar | .stc | .cmc => .carry
  | .movRR _ _ | .movRM _ | .movMR _ | .mviR _ _ | .mviM _ | .lxi _ _ | .lda _ | .sta _ | .lhld _ | .shld _
  | .ldax _ | .stax _ | .xchg | .inx _ | .dcx _ | .cma | .jmp _ | .jcc _ _ | .pchl | .call _ | .ccc _ _
  | .ret | .rcc _ | .rst _ | .push _ | .pushPsw | .pop _ | .xthl | .sphl | .inPort _ | .outPort _ | .ei
  | .di | .hlt | .nop | .undef _ => .none

/-- The registers of a pair of LXI, INX and DCX; SP is none of the seven. -/
def Pair.regs : Pair → List Reg
  | .bc => [.b, .c]
  | .de => [.d, .e]
  | .hl => [.h, .l]
  | .sp => []

/-- The registers of a pair of POP. -/
def StackPair.regs : StackPair → List Reg
  | .bc => [.b, .c]
  | .de => [.d, .e]
  | .hl => [.h, .l]

/-- The 8-bit registers that a rule writes: its destinations, as rules R120 to R241 name them. -/
def Form.regsWritten : Form → List Reg
  | .movRR r _ | .movRM r | .mviR r _ | .inrR r | .dcrR r => [r]
  | .lxi p _ | .inx p | .dcx p => p.regs
  | .lda _ | .ldax _ | .daa | .rlc | .rrc | .ral | .rar | .cma | .popPsw | .inPort _ => [.a]
  | .aluR op _ | .aluM op | .aluI op _ => if op = .cmp then [] else [.a]
  | .lhld _ | .dad _ | .xthl => [.h, .l]
  | .xchg => [.d, .e, .h, .l]
  | .pop p => p.regs
  | .movMR _ | .mviM _ | .sta _ | .shld _ | .stax _ | .inrM | .dcrM | .cmc | .stc | .jmp _ | .jcc _ _ | .pchl
  | .call _ | .ccc _ _ | .ret | .rcc _ | .rst _ | .push _ | .pushPsw | .sphl | .outPort _ | .ei | .di | .hlt
  | .nop | .undef _ => []

/-- Whether a rule writes SP (R31): LXI, INX and DCX SP, SPHL, the pushes and pops, calls, returns and
restarts; an undefined value may be a call or a return under `intel_alias` (R253). -/
def Form.spWritten : Form → Bool
  | .lxi p _ | .inx p | .dcx p => p == .sp
  | .call _ | .ccc _ _ | .ret | .rcc _ | .rst _ | .push _ | .pushPsw | .pop _ | .popPsw | .sphl | .undef _ => true
  | .movRR _ _ | .movRM _ | .movMR _ | .mviR _ _ | .mviM _ | .lda _ | .sta _ | .lhld _ | .shld _ | .ldax _
  | .stax _ | .xchg | .aluR _ _ | .aluM _ | .aluI _ _ | .inrR _ | .inrM | .dcrR _ | .dcrM | .dad _ | .daa
  | .rlc | .rrc | .ral | .rar | .cma | .cmc | .stc | .jmp _ | .jcc _ _ | .pchl | .xthl | .inPort _
  | .outPort _ | .ei | .di | .hlt | .nop => false

/-- The two bytes of a word at an address (20_memory.md R55). -/
def wordBytes (addr : Word) : List Word := [addr, addr + 1]

/-- The memory bytes that a rule stores to in a state whose instruction bytes have been fetched: the
"write" rows of 20_memory.md R61, and for an undefined value those of its Intel alias (R253). -/
def Form.storedAt (s : State) : Form → List Word
  | .movMR _ | .mviM _ | .inrM | .dcrM => [s.hl]
  | .sta a16 => [a16]
  | .stax p => [s.getIndexPair p]
  | .shld a16 => wordBytes a16
  | .push _ | .pushPsw | .call _ | .rst _ => wordBytes (s.sp - 2)
  | .ccc cond _ => if s.flags.holds cond then wordBytes (s.sp - 2) else []
  | .xthl => wordBytes s.sp
  | .undef .uDD | .undef .uED | .undef .uFD =>
    if s.cfg.undefPolicy = .intelAlias then wordBytes (s.sp - 2) else []
  | .undef .u08 | .undef .u10 | .undef .u18 | .undef .u20 | .undef .u28 | .undef .u30 | .undef .u38
  | .undef .uCB | .undef .uD9 => []
  | .movRR _ _ | .movRM _ | .mviR _ _ | .lxi _ _ | .lda _ | .lhld _ | .ldax _ | .xchg | .aluR _ _ | .aluM _
  | .aluI _ _ | .inrR _ | .dcrR _ | .inx _ | .dcx _ | .dad _ | .daa | .rlc | .rrc | .ral | .rar | .cma | .cmc
  | .stc | .jmp _ | .jcc _ _ | .pchl | .ret | .rcc _ | .pop _ | .popPsw | .sphl | .inPort _ | .outPort _
  | .ei | .di | .hlt | .nop => []

/-! ### The codes of the operand fields, for statements about encodings -/

/-- The 3-bit code of a register (R83). -/
def Reg.code : Reg → Nat
  | .b => 0
  | .c => 1
  | .d => 2
  | .e => 3
  | .h => 4
  | .l => 5
  | .a => 7

/-- The 2-bit code of a pair (R84). -/
def Pair.code : Pair → Nat
  | .bc => 0
  | .de => 1
  | .hl => 2
  | .sp => 3

/-- The 2-bit code of a pair of PUSH and POP (R84). -/
def StackPair.code : StackPair → Nat
  | .bc => 0
  | .de => 1
  | .hl => 2

/-- The 2-bit code of a pair of LDAX and STAX (R84). -/
def IndexPair.code : IndexPair → Nat
  | .bc => 0
  | .de => 1

/-- The 3-bit code of a condition (R85). -/
def Cond.code : Cond → Nat
  | .nz => 0
  | .z => 1
  | .nc => 2
  | .c => 3
  | .po => 4
  | .pe => 5
  | .p => 6
  | .m => 7

/-- The 3-bit code of an ALU operation (R86). -/
def AluOp.code : AluOp → Nat
  | .add => 0
  | .adc => 1
  | .sub => 2
  | .sbb => 3
  | .ana => 4
  | .xra => 5
  | .ora => 6
  | .cmp => 7

/-- The state that an ALU rule leaves for an operand byte, as the rules write it (R140 to R151, R170 to
R181): each operation's own flag function, A written by all but the compare. -/
def Machine.State.afterAlu (s : State) (op : AluOp) (v : Byte) : State :=
  match op with
  | .add => { s with a := (add8 s.a v false).res, flags := (add8 s.a v false).flags }
  | .adc => { s with a := (add8 s.a v s.flags.cy).res, flags := (add8 s.a v s.flags.cy).flags }
  | .sub => { s with a := (sub8 s.cfg.acSubMode s.a v false).res, flags := (sub8 s.cfg.acSubMode s.a v false).flags }
  | .sbb =>
    { s with
      a := (sub8 s.cfg.acSubMode s.a v s.flags.cy).res
      flags := (sub8 s.cfg.acSubMode s.a v s.flags.cy).flags }
  | .ana => { s with a := (and8 s.cfg.acAndMode s.a v).res, flags := (and8 s.cfg.acAndMode s.a v).flags }
  | .xra => { s with a := (xor8 s.a v).res, flags := (xor8 s.a v).flags }
  | .ora => { s with a := (or8 s.a v).res, flags := (or8 s.a v).flags }
  | .cmp => { s with flags := (sub8 s.cfg.acSubMode s.a v false).flags }

/-- The address and byte of the last data access of a rule, if it makes one, in a state whose instruction
bytes have been fetched (20_memory.md R57, R61; the order inside a word is D10). For an undefined value
under `intel_alias`, the further bytes of its alias count too (R253, R81). -/
def Form.lastAccess (s : State) : Form → Option (Word × Byte)
  | .movRM _ | .aluM _ => some (s.hl, s.byteAt s.hl)
  | .movMR r => some (s.hl, s.getReg r)
  | .mviM d8 => some (s.hl, d8)
  | .lda a16 => some (a16, s.byteAt a16)
  | .sta a16 => some (a16, s.a)
  | .lhld a16 => some (a16 + 1, s.byteAt (a16 + 1))
  | .shld a16 => some (a16 + 1, s.h)
  | .ldax p => some (s.getIndexPair p, s.byteAt (s.getIndexPair p))
  | .stax p => some (s.getIndexPair p, s.a)
  | .inrM => some (s.hl, s.byteAt s.hl + 1)
  | .dcrM => some (s.hl, s.byteAt s.hl - 1)
  | .call _ | .rst _ => some (s.sp - 1, hi8 s.pc)
  | .ccc cond _ => if s.flags.holds cond then some (s.sp - 1, hi8 s.pc) else none
  | .ret | .pop _ | .popPsw => some (s.sp + 1, s.byteAt (s.sp + 1))
  | .rcc cond => if s.flags.holds cond then some (s.sp + 1, s.byteAt (s.sp + 1)) else none
  | .push p => some (s.sp - 1, hi8 (s.getStackPair p))
  | .pushPsw => some (s.sp - 1, s.a)
  | .xthl => some (s.sp + 1, s.h)
  | .undef u =>
    match s.cfg.undefPolicy, u with
    | .fault, _ => none
    | .intelAlias, .u08 | .intelAlias, .u10 | .intelAlias, .u18 | .intelAlias, .u20
    | .intelAlias, .u28 | .intelAlias, .u30 | .intelAlias, .u38 => none
    | .intelAlias, .uCB => some (s.pc + 1, s.byteAt (s.pc + 1))
    | .intelAlias, .uD9 => some (s.sp + 1, s.byteAt (s.sp + 1))
    | .intelAlias, .uDD | .intelAlias, .uED | .intelAlias, .uFD => some (s.sp - 1, hi8 (s.pc + 2))
  | .movRR _ _ | .mviR _ _ | .lxi _ _ | .xchg | .aluR _ _ | .aluI _ _ | .inrR _ | .dcrR _ | .inx _ | .dcx _
  | .dad _ | .daa | .rlc | .rrc | .ral | .rar | .cma | .cmc | .stc | .jmp _ | .jcc _ _ | .pchl | .sphl
  | .inPort _ | .outPort _ | .ei | .di | .hlt | .nop => none

end Sys2Proof
end

