-- ==== Sys2Proof/Certificates/Slice0/Obligations.lean ====
section
/-! DEFINITION. The statements for the provers, from the spec's numbered rules. Every statement about an instruction names it by its rule (Form), which covers every row of the opcode table that the rule encodes; the encoding clause beside it says which opcode values those are. A clause about AB or DB is the spec's own decision D8, so statements of what a memory instruction does leave those two fields as they come out (`ab := t.ab, db := t.db`), and BusObservablesShowTheLastAccess says their values. -/

open Sys2Proof Sys2Proof.Machine

/-! ### Reset, registers, flags -/

/-- R40, R280: every field after reset, memory and parameters kept, from any state. INTE is the spec's
decision D6, and HALTED, AB, DB, IR, FAULT and memory its decision D15; the `bound` event is the model's
choice (log entry 13). `State.reset` is that state with nothing listed in memory (log entry 4), the default
parameters of R8 (log entry 1) and an empty history (log entry 3). -/
def Obligations.ResetGivesEveryFieldItsValue : Prop :=
  (∀ s : State,
    s.hostReset =
      { a := 0, b := 0, c := 0, d := 0, e := 0, h := 0, l := 0
        flags := { s := false, z := false, ac := false, p := false, cy := false }
        sp := 0, pc := 0, inte := false, halted := false, ab := 0, db := 0, ir := 0, faultMark := none
        mem := s.mem, cfg := s.cfg, io := s.io ++ [.bound] }) ∧
  State.reset =
    { a := 0, b := 0, c := 0, d := 0, e := 0, h := 0, l := 0
      flags := { s := false, z := false, ac := false, p := false, cy := false }
      sp := 0, pc := 0, inte := false, halted := false, ab := 0, db := 0, ir := 0, faultMark := none
      mem := [], cfg := { undefPolicy := .fault, acSubMode := .borrow, acAndMode := .clear }, io := [] } ∧
  State.reset.flags.toByte = 0x02

/-- R23, R24: a pair reads as high*256 + low; writing a pair writes both halves and nothing else, and reads
back; writing one 8-bit register changes that register and nothing else (writing the old byte back
restores the state). -/
def Obligations.PairsAreTheirTwoHalves : Prop :=
  (∀ s : State,
    s.bc.toNat = s.b.toNat * 256 + s.c.toNat ∧ s.de.toNat = s.d.toNat * 256 + s.e.toNat ∧
    s.hl.toNat = s.h.toNat * 256 + s.l.toNat ∧ s.psw.toNat = s.a.toNat * 256 + s.flags.toByte.toNat) ∧
  (∀ w : Word, (hi8 w).toNat = w.toNat / 256 ∧ (lo8 w).toNat = w.toNat % 256) ∧
  (∀ (s : State) (w : Word),
    s.setPair .bc w = { s with b := hi8 w, c := lo8 w } ∧ s.setPair .de w = { s with d := hi8 w, e := lo8 w } ∧
    s.setPair .hl w = { s with h := hi8 w, l := lo8 w } ∧ s.setPair .sp w = { s with sp := w } ∧
    s.setPsw w = { s with a := hi8 w, flags := Flags.ofByte (lo8 w) } ∧
    ∀ p : Pair, (s.setPair p w).getPair p = w) ∧
  (∀ (s : State) (r r' : Reg) (v : Byte),
    (s.setReg r v).getReg r' = (if r' = r then v else s.getReg r') ∧ (s.setReg r v).setReg r (s.getReg r) = s)

/-- R27, R28 (their bit positions and fixed bits are the spec's decision D2): F = S*128 + Z*64 + AC*16 + P*4
+ 2 + CY; what is written to bits 5, 3 and 1 is discarded; the five flags come back. -/
def Obligations.FlagsByteKeepsFiveFlagsAndFixedBits : Prop :=
  (∀ f : Flags,
    f.toByte.toNat = f.s.toNat * 128 + f.z.toNat * 64 + f.ac.toNat * 16 + f.p.toNat * 4 + 2 + f.cy.toNat ∧
    Flags.ofByte f.toByte = f) ∧
  ∀ v : Byte, (Flags.ofByte v).toByte = (v &&& 0xD7) ||| 0x02

/-! ### The flag ALU -/

/-- R100: S is bit 7, Z is result 0, P is an even number of 1 bits, for every result. -/
def Obligations.SignZeroParityOfResult : Prop :=
  ∀ (res : Byte) (ac cy : Bool),
    (flagsOf res ac cy).s = decide (128 ≤ res.toNat) ∧
    (flagsOf res ac cy).z = decide (res.toNat = 0) ∧
    (flagsOf res ac cy).p = decide (((List.range 8).map fun i => res.toNat / 2 ^ i % 2).sum % 2 = 0) ∧
    (flagsOf res ac cy).ac = ac ∧ (flagsOf res ac cy).cy = cy

/-- R101: the sum, its carry out of bit 7 and its carry out of bit 3, for every a, b and carry-in. -/
def Obligations.AdditionResultCarryAndHalfCarry : Prop :=
  ∀ (a b : Byte) (cin : Bool),
    (add8 a b cin).res.toNat = (a.toNat + b.toNat + cin.toNat) % 256 ∧
    (add8 a b cin).flags =
      flagsOf (add8 a b cin).res (decide (16 ≤ a.toNat % 16 + b.toNat % 16 + cin.toNat))
        (decide (256 ≤ a.toNat + b.toNat + cin.toNat))

/-- R102, R103: the difference, its borrow, and its half-carry in both values of AC_SUB_MODE; the intel
value is the complement of the borrow value for every a, b and borrow-in, and is the carry out of bit 3 of
the addition that forms the subtraction. -/
def Obligations.SubtractionResultBorrowAndHalfCarry : Prop :=
  ∀ (mode : AcSubMode) (a b : Byte) (bin : Bool),
    ((sub8 mode a b bin).res.toNat : Int) = ((a.toNat : Int) - b.toNat - bin.toNat) % 256 ∧
    (sub8 mode a b bin).flags =
      flagsOf (sub8 mode a b bin).res (acSub mode a b bin) (decide (a.toNat < b.toNat + bin.toNat)) ∧
    acSub .borrow a b bin = decide (a.toNat % 16 < b.toNat % 16 + bin.toNat) ∧
    acSub .intel a b bin = decide (16 ≤ a.toNat % 16 + (~~~b).toNat % 16 + (1 - bin.toNat)) ∧
    acSub .intel a b bin = !acSub .borrow a b bin

/-- R104, R105: increment and decrement are the addition and subtraction of 1 in result and in S, Z, AC
and P, and carry no carry. -/
def Obligations.IncrementDecrementKeepCarry : Prop :=
  ∀ (mode : AcSubMode) (v : Byte) (cy : Bool),
    (inc8 v cy).res.toNat = (v.toNat + 1) % 256 ∧
    inc8 v cy = { res := (add8 v 1 false).res, flags := { (add8 v 1 false).flags with cy := cy } } ∧
    (inc8 v cy).flags.ac = decide (v.toNat % 16 = 15) ∧
    (dec8 mode v cy).res.toNat = (v.toNat + 255) % 256 ∧
    dec8 mode v cy = { res := (sub8 mode v 1 false).res, flags := { (sub8 mode v 1 false).flags with cy := cy } } ∧
    (dec8 .borrow v cy).flags.ac = decide (v.toNat % 16 = 0) ∧
    (dec8 .intel v cy).flags.ac = decide (v.toNat % 16 ≠ 0)

/-- R106, R107: the logical functions clear CY; AND sets AC by AC_AND_MODE, XOR and OR clear it. -/
def Obligations.LogicalFunctionsClearCarry : Prop :=
  ∀ a b : Byte,
    and8 .clear a b = { res := a &&& b, flags := flagsOf (a &&& b) false false } ∧
    and8 .intel a b = { res := a &&& b, flags := flagsOf (a &&& b) (a.getLsbD 3 || b.getLsbD 3) false } ∧
    xor8 a b = { res := a ^^^ b, flags := flagsOf (a ^^^ b) false false } ∧
    or8 a b = { res := a ||| b, flags := flagsOf (a ||| b) false false }

/-- From R101 and R110: the decimal adjust after an addition of two packed two-digit decimal numbers is the
packed decimal sum modulo 100, with CY its hundreds digit. -/
def Obligations.DecimalAdjustAddsPackedDecimals : Prop :=
  ∀ x y : Fin 100,
    let bcd : Nat → Byte := fun n => BitVec.ofNat 8 (n / 10 * 16 + n % 10)
    let t := add8 (bcd x.val) (bcd y.val) false
    (daa t.res t.flags.ac t.flags.cy).res = bcd ((x.val + y.val) % 100) ∧
    (daa t.res t.flags.ac t.flags.cy).flags.cy = decide (100 ≤ x.val + y.val)

/-! ### Data transfer -/

/-- R120, R121, R122: all 49 MOV r1,r2, the seven MOV r,M and the seven MOV M,r. -/
def Obligations.MovCopiesRegisterOrByteAtHl : Prop :=
  (∀ (dst src : Reg) (s : State),
    encode (Form.movRR dst src).instr = [BitVec.ofNat 8 (64 + 8 * dst.code + src.code)] ∧
    exec (Form.movRR dst src).instr s = .next (s.setReg dst (s.getReg src))) ∧
  (∀ (dst : Reg) (s : State),
    encode (Form.movRM dst).instr = [BitVec.ofNat 8 (64 + 8 * dst.code + 6)] ∧
    ∃ t, exec (Form.movRM dst).instr s = .next t ∧
      t = { s.setReg dst (s.byteAt s.hl) with ab := t.ab, db := t.db }) ∧
  (∀ (src : Reg) (s : State),
    encode (Form.movMR src).instr = [BitVec.ofNat 8 (64 + 8 * 6 + src.code)] ∧
    ∃ t, exec (Form.movMR src).instr s = .next t ∧
      t = { s with mem := s.mem.write8 s.hl.toNat (s.getReg src), ab := t.ab, db := t.db })

/-- R123, R124: MVI r and MVI M. -/
def Obligations.MviMovesImmediate : Prop :=
  (∀ (dst : Reg) (d8 : Byte) (s : State),
    encode (Form.mviR dst d8).instr = [BitVec.ofNat 8 (8 * dst.code + 6), d8] ∧
    exec (Form.mviR dst d8).instr s = .next (s.setReg dst d8)) ∧
  (∀ (d8 : Byte) (s : State),
    encode (Form.mviM d8).instr = [0x36, d8] ∧
    ∃ t, exec (Form.mviM d8).instr s = .next t ∧
      t = { s with mem := s.mem.write8 s.hl.toNat d8, ab := t.ab, db := t.db })

/-- R125: LXI on each of the four pairs; byte 1 is the low byte of d16. -/
def Obligations.LxiLoadsPair : Prop :=
  ∀ (d16 : Word) (s : State),
    (∀ p : Pair, encode (Form.lxi p d16).instr = [BitVec.ofNat 8 (16 * p.code + 1), lo8 d16, hi8 d16]) ∧
    exec (Form.lxi .bc d16).instr s = .next { s with b := hi8 d16, c := lo8 d16 } ∧
    exec (Form.lxi .de d16).instr s = .next { s with d := hi8 d16, e := lo8 d16 } ∧
    exec (Form.lxi .hl d16).instr s = .next { s with h := hi8 d16, l := lo8 d16 } ∧
    exec (Form.lxi .sp d16).instr s = .next { s with sp := d16 }

/-- R126 to R129: LDA, STA, LHLD and SHLD; L goes with a16 and H with a16 + 1 modulo 65536. -/
def Obligations.DirectLoadsAndStores : Prop :=
  ∀ (a16 : Word) (s : State),
    encode (Form.lda a16).instr = [0x3A, lo8 a16, hi8 a16] ∧
    (∃ t, exec (Form.lda a16).instr s = .next t ∧ t = { s with a := s.byteAt a16, ab := t.ab, db := t.db }) ∧
    encode (Form.sta a16).instr = [0x32, lo8 a16, hi8 a16] ∧
    (∃ t, exec (Form.sta a16).instr s = .next t ∧
      t = { s with mem := s.mem.write8 a16.toNat s.a, ab := t.ab, db := t.db }) ∧
    encode (Form.lhld a16).instr = [0x2A, lo8 a16, hi8 a16] ∧
    (∃ t, exec (Form.lhld a16).instr s = .next t ∧
      t = { s with l := s.byteAt a16, h := s.byteAt (a16 + 1), ab := t.ab, db := t.db }) ∧
    encode (Form.shld a16).instr = [0x22, lo8 a16, hi8 a16] ∧
    (∃ t, exec (Form.shld a16).instr s = .next t ∧
      t = { s with mem := (s.mem.write8 a16.toNat s.l).write8 (a16 + 1).toNat s.h, ab := t.ab, db := t.db })

/-- R130, R131: LDAX and STAX through BC and DE. -/
def Obligations.LdaxStaxMoveAccumulatorIndirect : Prop :=
  ∀ (p : IndexPair) (s : State),
    s.getIndexPair .bc = s.bc ∧ s.getIndexPair .de = s.de ∧
    encode (Form.ldax p).instr = [BitVec.ofNat 8 (16 * p.code + 10)] ∧
    (∃ t, exec (Form.ldax p).instr s = .next t ∧
      t = { s with a := s.byteAt (s.getIndexPair p), ab := t.ab, db := t.db }) ∧
    encode (Form.stax p).instr = [BitVec.ofNat 8 (16 * p.code + 2)] ∧
    (∃ t, exec (Form.stax p).instr s = .next t ∧
      t = { s with mem := s.mem.write8 (s.getIndexPair p).toNat s.a, ab := t.ab, db := t.db })

/-- R132: XCHG, and twice restores. -/
def Obligations.XchgSwapsPairs : Prop :=
  ∀ s : State,
    encode Form.xchg.instr = [0xEB] ∧
    exec Form.xchg.instr s = .next { s with h := s.d, l := s.e, d := s.h, e := s.l } ∧
    exec Form.xchg.instr { s with h := s.d, l := s.e, d := s.h, e := s.l } = .next s

/-! ### Arithmetic and logic -/

/-- R140, R143, R146, R149, R170, R173, R176, R179: the 56 register forms. -/
def Obligations.AluRegisterForms : Prop :=
  ∀ (op : AluOp) (src : Reg) (s : State),
    encode (Form.aluR op src).instr = [BitVec.ofNat 8 (128 + 8 * op.code + src.code)] ∧
    exec (Form.aluR op src).instr s = .next (s.afterAlu op (s.getReg src))

/-- R141, R144, R147, R150, R171, R174, R177, R180: the eight forms on M; memory unchanged. -/
def Obligations.AluMemoryForms : Prop :=
  ∀ (op : AluOp) (s : State),
    encode (Form.aluM op).instr = [BitVec.ofNat 8 (128 + 8 * op.code + 6)] ∧
    ∃ t, exec (Form.aluM op).instr s = .next t ∧
      t = { s.afterAlu op (s.byteAt s.hl) with ab := t.ab, db := t.db }

/-- R142, R145, R148, R151, R172, R175, R178, R181: the eight immediate forms. -/
def Obligations.AluImmediateForms : Prop :=
  ∀ (op : AluOp) (d8 : Byte) (s : State),
    encode (Form.aluI op d8).instr = [BitVec.ofNat 8 (192 + 8 * op.code + 6), d8] ∧
    exec (Form.aluI op d8).instr s = .next (s.afterAlu op d8)

/-- R152, R154: INR r and DCR r, CY untouched. -/
def Obligations.InrDcrRegister : Prop :=
  ∀ (r : Reg) (s : State),
    encode (Form.inrR r).instr = [BitVec.ofNat 8 (8 * r.code + 4)] ∧
    exec (Form.inrR r).instr s =
      .next ({ s with flags := (inc8 (s.getReg r) s.flags.cy).flags }.setReg r (s.getReg r + 1)) ∧
    encode (Form.dcrR r).instr = [BitVec.ofNat 8 (8 * r.code + 5)] ∧
    exec (Form.dcrR r).instr s =
      .next ({ s with flags := (dec8 s.cfg.acSubMode (s.getReg r) s.flags.cy).flags }.setReg r (s.getReg r - 1))

/-- R153, R155: INR M and DCR M, read then written at HL, CY untouched. -/
def Obligations.InrDcrMemory : Prop :=
  ∀ s : State,
    encode Form.inrM.instr = [0x34] ∧
    (∃ t, exec Form.inrM.instr s = .next t ∧
      t = { s with
            flags := (inc8 (s.byteAt s.hl) s.flags.cy).flags
            mem := s.mem.write8 s.hl.toNat (s.byteAt s.hl + 1), ab := t.ab, db := t.db }) ∧
    encode Form.dcrM.instr = [0x35] ∧
    (∃ t, exec Form.dcrM.instr s = .next t ∧
      t = { s with
            flags := (dec8 s.cfg.acSubMode (s.byteAt s.hl) s.flags.cy).flags
            mem := s.mem.write8 s.hl.toNat (s.byteAt s.hl - 1), ab := t.ab, db := t.db })

/-- R156, R157: INX and DCX on the four pairs; no flag. -/
def Obligations.InxDcxCountPairs : Prop :=
  ∀ (p : Pair) (s : State),
    encode (Form.inx p).instr = [BitVec.ofNat 8 (16 * p.code + 3)] ∧
    exec (Form.inx p).instr s = .next (s.setPair p (s.getPair p + 1)) ∧
    encode (Form.dcx p).instr = [BitVec.ofNat 8 (16 * p.code + 11)] ∧
    exec (Form.dcx p).instr s = .next (s.setPair p (s.getPair p - 1))

/-- R158, R109: DAD on the four pairs; CY is the carry out of bit 15, the other flags kept. -/
def Obligations.DadAddsPairToHl : Prop :=
  ∀ (p : Pair) (s : State),
    encode (Form.dad p).instr = [BitVec.ofNat 8 (16 * p.code + 9)] ∧
    exec (Form.dad p).instr s =
      .next { s with
              h := hi8 (s.hl + s.getPair p)
              l := lo8 (s.hl + s.getPair p)
              flags := { s.flags with cy := decide (65536 ≤ s.hl.toNat + (s.getPair p).toNat) } }

/-- R159, R110: DAA, the two corrections written out. -/
def Obligations.DaaAppliesCorrections : Prop :=
  ∀ s : State,
    let lo := s.a.toNat % 16
    let hi := s.a.toNat / 16
    let low := s.flags.ac || decide (9 < lo)
    let high := s.flags.cy || decide (9 < hi) || (decide (9 ≤ hi) && decide (9 < lo))
    let r := add8 s.a (BitVec.ofNat 8 ((if low then 0x06 else 0) + (if high then 0x60 else 0))) false
    encode Form.daa.instr = [0x27] ∧
    exec Form.daa.instr s =
      .next { s with a := r.res, flags := { r.flags with cy := s.flags.cy || high } }

/-- R182 to R185: the four rotates; CY is the bit shifted out, the other flags kept. -/
def Obligations.RotatesMoveBitsThroughCarry : Prop :=
  ∀ s : State,
    let b7 := decide (128 ≤ s.a.toNat)
    let b0 := decide (s.a.toNat % 2 = 1)
    encode Form.rlc.instr = [0x07] ∧
    exec Form.rlc.instr s =
      .next { s with a := BitVec.ofNat 8 (s.a.toNat * 2 % 256 + b7.toNat), flags := { s.flags with cy := b7 } } ∧
    encode Form.rrc.instr = [0x0F] ∧
    exec Form.rrc.instr s =
      .next { s with a := BitVec.ofNat 8 (s.a.toNat / 2 + b0.toNat * 128), flags := { s.flags with cy := b0 } } ∧
    encode Form.ral.instr = [0x17] ∧
    exec Form.ral.instr s =
      .next { s with
              a := BitVec.ofNat 8 (s.a.toNat * 2 % 256 + s.flags.cy.toNat), flags := { s.flags with cy := b7 } } ∧
    encode Form.rar.instr = [0x1F] ∧
    exec Form.rar.instr s =
      .next { s with
              a := BitVec.ofNat 8 (s.a.toNat / 2 + s.flags.cy.toNat * 128), flags := { s.flags with cy := b0 } }

/-- R186, R187, R188: CMA, CMC, STC. -/
def Obligations.ComplementAndCarryInstructions : Prop :=
  ∀ s : State,
    encode Form.cma.instr = [0x2F] ∧
    exec Form.cma.instr s = .next { s with a := BitVec.ofNat 8 (255 - s.a.toNat) } ∧
    encode Form.cmc.instr = [0x3F] ∧
    exec Form.cmc.instr s = .next { s with flags := { s.flags with cy := !s.flags.cy } } ∧
    encode Form.stc.instr = [0x37] ∧
    exec Form.stc.instr s = .next { s with flags := { s.flags with cy := true } }

/-! ### Branch, call, return, restart -/

/-- R200, R207: JMP and PCHL. -/
def Obligations.JmpAndPchlSetPc : Prop :=
  ∀ (a16 : Word) (s : State),
    encode (Form.jmp a16).instr = [0xC3, lo8 a16, hi8 a16] ∧
    exec (Form.jmp a16).instr s = .next { s with pc := a16 } ∧
    encode Form.pchl.instr = [0xE9] ∧
    exec Form.pchl.instr s = .next { s with pc := s.hl }

/-- R201, R85: the eight conditions and the eight conditional jumps; taken or not, only PC changes. -/
def Obligations.ConditionalJumpsTestOneFlag : Prop :=
  (∀ f : Flags,
    f.holds .nz = !f.z ∧ f.holds .z = f.z ∧ f.holds .nc = !f.cy ∧ f.holds .c = f.cy ∧
    f.holds .po = !f.p ∧ f.holds .pe = f.p ∧ f.holds .p = !f.s ∧ f.holds .m = f.s) ∧
  ∀ (cond : Cond) (a16 : Word) (s : State),
    encode (Form.jcc cond a16).instr = [BitVec.ofNat 8 (192 + 8 * cond.code + 2), lo8 a16, hi8 a16] ∧
    exec (Form.jcc cond a16).instr s = .next { s with pc := if s.flags.holds cond then a16 else s.pc }

/-- R202, R206, R203: CALL, the eight RST n and the eight conditional calls push the return address, low byte
at the new SP; a conditional call not taken changes nothing beyond the fetch. -/
def Obligations.CallsAndRestartsPushReturnAddress : Prop :=
  (∀ (a16 : Word) (s : State),
    encode (Form.call a16).instr = [0xCD, lo8 a16, hi8 a16] ∧
    ∃ t, exec (Form.call a16).instr s = .next t ∧
      t = { s with
            sp := s.sp - 2
            mem := (s.mem.write8 (s.sp - 2).toNat (lo8 s.pc)).write8 (s.sp - 1).toNat (hi8 s.pc)
            pc := a16, ab := t.ab, db := t.db }) ∧
  (∀ (n : Fin 8) (s : State),
    encode (Form.rst n).instr = [BitVec.ofNat 8 (192 + 8 * n.val + 7)] ∧
    ∃ t, exec (Form.rst n).instr s = .next t ∧
      t = { s with
            sp := s.sp - 2
            mem := (s.mem.write8 (s.sp - 2).toNat (lo8 s.pc)).write8 (s.sp - 1).toNat (hi8 s.pc)
            pc := BitVec.ofNat 16 (8 * n.val), ab := t.ab, db := t.db }) ∧
  (∀ (cond : Cond) (a16 : Word) (s : State),
    encode (Form.ccc cond a16).instr = [BitVec.ofNat 8 (192 + 8 * cond.code + 4), lo8 a16, hi8 a16] ∧
    ∃ t, exec (Form.ccc cond a16).instr s = .next t ∧
      t = if s.flags.holds cond then
            { s with
              sp := s.sp - 2
              mem := (s.mem.write8 (s.sp - 2).toNat (lo8 s.pc)).write8 (s.sp - 1).toNat (hi8 s.pc)
              pc := a16, ab := t.ab, db := t.db }
          else s)

/-- R204, R205: RET and the eight conditional returns; not taken, nothing changes beyond the fetch. -/
def Obligations.ReturnsPopPc : Prop :=
  (∀ s : State,
    encode Form.ret.instr = [0xC9] ∧
    ∃ t, exec Form.ret.instr s = .next t ∧
      t = { s with
            pc := cat16 (s.byteAt (s.sp + 1)) (s.byteAt s.sp), sp := s.sp + 2, ab := t.ab, db := t.db }) ∧
  (∀ (cond : Cond) (s : State),
    encode (Form.rcc cond).instr = [BitVec.ofNat 8 (192 + 8 * cond.code)] ∧
    ∃ t, exec (Form.rcc cond).instr s = .next t ∧
      t = if s.flags.holds cond then
            { s with
              pc := cat16 (s.byteAt (s.sp + 1)) (s.byteAt s.sp), sp := s.sp + 2, ab := t.ab, db := t.db }
          else s)

/-! ### Stack, I/O, machine control -/

/-- R230: PUSH B, D and H; the low register at the new SP, the high one above it. -/
def Obligations.PushWritesPairBelowSp : Prop :=
  ∀ (p : StackPair) (s : State),
    encode (Form.push p).instr = [BitVec.ofNat 8 (192 + 16 * p.code + 5)] ∧
    ∃ t, exec (Form.push p).instr s = .next t ∧
      t = { s with
            sp := s.sp - 2
            mem := match p with
              | .bc => (s.mem.write8 (s.sp - 2).toNat s.c).write8 (s.sp - 1).toNat s.b
              | .de => (s.mem.write8 (s.sp - 2).toNat s.e).write8 (s.sp - 1).toNat s.d
              | .hl => (s.mem.write8 (s.sp - 2).toNat s.l).write8 (s.sp - 1).toNat s.h
            ab := t.ab, db := t.db }

/-- R232: POP B, D and H; the low register from SP, the high one from SP + 1. -/
def Obligations.PopReadsPairAtSp : Prop :=
  ∀ s : State,
    (∀ p : StackPair, encode (Form.pop p).instr = [BitVec.ofNat 8 (192 + 16 * p.code + 1)]) ∧
    (∃ t, exec (Form.pop .bc).instr s = .next t ∧
      t = { s with c := s.byteAt s.sp, b := s.byteAt (s.sp + 1), sp := s.sp + 2, ab := t.ab, db := t.db }) ∧
    (∃ t, exec (Form.pop .de).instr s = .next t ∧
      t = { s with e := s.byteAt s.sp, d := s.byteAt (s.sp + 1), sp := s.sp + 2, ab := t.ab, db := t.db }) ∧
    (∃ t, exec (Form.pop .hl).instr s = .next t ∧
      t = { s with l := s.byteAt s.sp, h := s.byteAt (s.sp + 1), sp := s.sp + 2, ab := t.ab, db := t.db })

/-- R231, R233 (the layout of F is the spec's decision D2): PUSH PSW and POP PSW, F at the new SP and A above
it; S, Z, AC, P and CY come back from bits 7, 6, 4, 2 and 0 of the popped byte. -/
def Obligations.PushPopPswMoveAccumulatorAndFlags : Prop :=
  ∀ s : State,
    encode Form.pushPsw.instr = [0xF5] ∧
    (∃ t, exec Form.pushPsw.instr s = .next t ∧
      t = { s with
            sp := s.sp - 2
            mem := (s.mem.write8 (s.sp - 2).toNat s.flags.toByte).write8 (s.sp - 1).toNat s.a
            ab := t.ab, db := t.db }) ∧
    encode Form.popPsw.instr = [0xF1] ∧
    (∃ t, exec Form.popPsw.instr s = .next t ∧
      t = { s with
            flags := { s := (s.byteAt s.sp).getLsbD 7, z := (s.byteAt s.sp).getLsbD 6
                       ac := (s.byteAt s.sp).getLsbD 4, p := (s.byteAt s.sp).getLsbD 2
                       cy := (s.byteAt s.sp).getLsbD 0 }
            a := s.byteAt (s.sp + 1), sp := s.sp + 2, ab := t.ab, db := t.db })

/-- R234, R235: XTHL exchanges HL with the word at SP, SPHL loads SP. -/
def Obligations.XthlAndSphl : Prop :=
  ∀ s : State,
    encode Form.xthl.instr = [0xE3] ∧
    (∃ t, exec Form.xthl.instr s = .next t ∧
      t = { s with
            l := s.byteAt s.sp, h := s.byteAt (s.sp + 1)
            mem := (s.mem.write8 s.sp.toNat s.l).write8 (s.sp + 1).toNat s.h, ab := t.ab, db := t.db }) ∧
    encode Form.sphl.instr = [0xF9] ∧
    exec Form.sphl.instr s = .next { s with sp := s.hl }

/-- R236, R237, R71, R72: IN loads A with the handler's byte, 0 from an unmapped port; OUT changes no core
state. An access reaches the handlers exactly when its port has a handler for it, so an access to an unmapped
port changes nothing that any handler sees, whatever events follow. That each access is recorded in the I/O
history is the model's choice (log entry 3); which ports are mapped for reading and writing and what a handler
answers are free values (log entry 2); that an unmapped read reaches no handler is inferred (log entry 15); AB
and DB stand by the spec's decision D11. -/
def Obligations.InAndOutUsePortSpace : Prop :=
  ∀ (port : Byte) (s : State),
    let v := if Config.readMapped s.binding port then Config.handlerRead (handlerHistory 0 s.io) port else 0
    encode (Form.inPort port).instr = [0xDB, port] ∧
    exec (Form.inPort port).instr s = .next { s with a := v, io := s.io ++ [.input port v] } ∧
    encode (Form.outPort port).instr = [0xD3, port] ∧
    exec (Form.outPort port).instr s = .next { s with io := s.io ++ [.output port s.a] } ∧
    handlerHistory 0 (s.io ++ [.output port s.a]) =
      handlerHistory 0 s.io ++ (if Config.writeMapped s.binding port then [.output port s.a] else []) ∧
    ∀ rest : List IoEvent,
      handlerHistory 0 (s.io ++ [.input port v] ++ rest) =
        handlerHistory 0 ((if Config.readMapped s.binding port then s.io ++ [.input port v] else s.io) ++ rest) ∧
      handlerHistory 0 (s.io ++ [.output port s.a] ++ rest) =
        handlerHistory 0 ((if Config.writeMapped s.binding port then s.io ++ [.output port s.a] else s.io) ++ rest)

/-- R238 to R241: EI, DI, HLT and NOP, which does nothing beyond the opcode fetch. That EI acts at once is
the spec's decision D6; what HLT does is its decision D7. -/
def Obligations.EiDiHltAndNop : Prop :=
  ∀ s : State,
    encode Form.ei.instr = [0xFB] ∧ exec Form.ei.instr s = .next { s with inte := true } ∧
    encode Form.di.instr = [0xF3] ∧ exec Form.di.instr s = .next { s with inte := false } ∧
    encode Form.hlt.instr = [0x76] ∧ exec Form.hlt.instr s = .next { s with halted := true } ∧
    encode Form.nop.instr = [0x00] ∧ exec Form.nop.instr s = .next s

/-! ### The undefined opcode values -/

/-- R252 (the spec's decision D1): under `UNDEF_POLICY = fault` each of the twelve values sets FAULT to its
address and opcode, and the step that meets one changes PC by 1, IR, AB, DB and FAULT and nothing else. -/
def Obligations.UndefinedOpcodeSetsFault : Prop :=
  ∀ (u : UndefOp) (s : State), s.cfg.undefPolicy = .fault →
    encode (Form.undef u).instr = [u.byte] ∧
    exec (Form.undef u).instr s = .next { s with faultMark := some { addr := s.pc - 1, opcode := u.byte } } ∧
    (s.Running → s.byteAt s.pc = u.byte →
      step s =
        .next { s with
                pc := s.pc + 1, ir := u.byte, ab := s.pc, db := u.byte
                faultMark := some { addr := s.pc, opcode := u.byte } })

/-- R253: under `UNDEF_POLICY = intel_alias` seven values are NOP, 0xCB is JMP a16, 0xD9 is RET, and 0xDD,
0xED and 0xFD are CALL a16, the address being the two bytes after the opcode byte; no FAULT. -/
def Obligations.UndefinedOpcodeRunsIntelAlias : Prop :=
  ∀ s : State, s.cfg.undefPolicy = .intelAlias →
    (∀ u ∈ [UndefOp.u08, .u10, .u18, .u20, .u28, .u30, .u38], exec (Form.undef u).instr s = .next s) ∧
    (∃ t, exec (Form.undef .uCB).instr s = .next t ∧
      t = { s with pc := cat16 (s.byteAt (s.pc + 1)) (s.byteAt s.pc), ab := t.ab, db := t.db }) ∧
    (∃ t, exec (Form.undef .uD9).instr s = .next t ∧
      t = { s with
            pc := cat16 (s.byteAt (s.sp + 1)) (s.byteAt s.sp), sp := s.sp + 2, ab := t.ab, db := t.db }) ∧
    (∀ u ∈ [UndefOp.uDD, .uED, .uFD],
      ∃ t, exec (Form.undef u).instr s = .next t ∧
        t = { s with
              sp := s.sp - 2
              mem := (s.mem.write8 (s.sp - 2).toNat (lo8 (s.pc + 2))).write8 (s.sp - 1).toNat (hi8 (s.pc + 2))
              pc := cat16 (s.byteAt (s.pc + 1)) (s.byteAt s.pc), ab := t.ab, db := t.db })

/-! ### Decoding -/

/-- Decode and encode are inverse: every instruction, with every operand, decodes back from its bytes
whatever follows them, and bytes that decode are the bytes of what they decode to. -/
def Obligations.DecodeAndEncodeAreInverse : Prop :=
  (∀ (i : Instr) (rest : List Byte), decode (encode i ++ rest) = .ok (i, rest)) ∧
  ∀ (bytes : List Byte) (i : Instr) (rest : List Byte), decode bytes = .ok (i, rest) → encode i ++ rest = bytes

/-- R80, R81, R89: the length is a function of the opcode byte alone, 212, 18 and 26 values having one, two and
three bytes, and a list that holds fewer is refused by name; exactly twelve values are undefined (R89). -/
def Obligations.LengthAndDefinednessOfTheOpcode : Prop :=
  (∀ (op b1 b2 b1' b2' : Byte) (i i' : Instr) (rest rest' : List Byte),
    decode [op, b1, b2] = .ok (i, rest) → decode [op, b1', b2'] = .ok (i', rest') → i.length = i'.length) ∧
  (∀ op b1 b2 : Byte, ∃ i rest, decode [op, b1, b2] = .ok (i, rest) ∧ 1 ≤ i.length ∧ i.length ≤ 3) ∧
  ((List.range 256).filter fun n => (decode [BitVec.ofNat 8 n]).isOk).length = 212 ∧
  ((List.range 256).filter fun n => (decode [BitVec.ofNat 8 n, 0]).isOk).length = 230 ∧
  decode [] = .error .empty ∧
  (∀ bytes e, decode bytes = .error e → bytes.length < 3) ∧
  (∀ (op b1 b2 : Byte) (i : Instr) (rest : List Byte),
    decode [op, b1, b2] = .ok (i, rest) → (i.wellFormed = false ↔ op ∈ undefinedOpcodes)) ∧
  undefinedOpcodes.length = 12 ∧ undefinedOpcodes.Nodup

/-- Words written out from the bit patterns of R82, one of each family: MOV D,A; LXI SP; MVI M; SUB M; ANI;
INR E; DAD H; RAR; JPE; CM; RPO; RST 5; PUSH PSW; IN; HLT; an undefined value. -/
def Obligations.SpecWordsDecodeToTheirInstructions : Prop :=
  decode [0b01010111] = .ok (.movDA, []) ∧
  decode [0b00110001, 0x34, 0x12] = .ok (.lxiSp 0x1234, []) ∧
  decode [0b00110110, 0x5A] = .ok (.mviM 0x5A, []) ∧
  decode [0b10010110] = .ok (.subM, []) ∧
  decode [0b11100110, 0x0F] = .ok (.ani 0x0F, []) ∧
  decode [0b00011100] = .ok (.inrE, []) ∧
  decode [0b00101001] = .ok (.dadH, []) ∧
  decode [0b00011111] = .ok (.rar, []) ∧
  decode [0b11101010, 0x00, 0x20] = .ok (.jpe 0x2000, []) ∧
  decode [0b11111100, 0x00, 0x20] = .ok (.cm 0x2000, []) ∧
  decode [0b11100000] = .ok (.rpo, []) ∧
  decode [0b11101111] = .ok (.rst5, []) ∧
  decode [0b11110101] = .ok (.pushPsw, []) ∧
  decode [0b11011011, 0x10] = .ok (.inPort 0x10, []) ∧
  decode [0b01110110] = .ok (.hlt, []) ∧
  decode [0b11101101] = .ok (.undefED, [])

/-! ### The step -/

/-- R87, R287 (AB and DB by the spec's decision D8): when the bytes at PC decode to an instruction, a running
state steps to what the instruction does in the state whose PC has moved past its bytes, IR holding the
opcode, AB and DB the last byte fetched; and the bytes at PC always decode. -/
def Obligations.StepRunsTheDecodedInstruction : Prop :=
  (∀ s : State, ∃ i rest, decode s.bytesAtPc = .ok (i, rest)) ∧
  ∀ (s : State) (i : Instr) (rest : List Byte), s.Running → decode s.bytesAtPc = .ok (i, rest) →
    step s =
      exec i { s with
               pc := s.pc + BitVec.ofNat 16 i.length
               ir := s.byteAt s.pc
               ab := s.pc + BitVec.ofNat 16 i.length - 1
               db := s.byteAt (s.pc + BitVec.ofNat 16 i.length - 1) }

/-- R250: no instruction is fatal: every one takes a next state from every state. -/
def Obligations.EveryInstructionTakesANextState : Prop :=
  ∀ (i : Instr) (s : State), ∃ t, exec i s = .next t

/-- R38, R287, R288 (the spec's decisions D1 and D7): a step stops exactly when FAULT is set and is refused
never; a halted state steps to itself; what a step reports. -/
def Obligations.StepStopsExactlyWhenFaultIsSet : Prop :=
  ∀ s : State,
    (∀ u, s.faultMark = some u → step s = .fault (.stopped u.addr u.opcode) ∧ s.stepReport = .stopped) ∧
    (s.faultMark = none → ∃ t, step s = .next t) ∧
    (s.faultMark = none → s.halted = true → step s = .next s ∧ s.stepReport = .halted)

/-- R251, R252, R261 (the spec's decision D1): a running state reports Faulted exactly when UNDEF_POLICY is
fault and the byte at PC is one of the twelve undefined values, and Ran otherwise. -/
def Obligations.FaultsExactlyOnUndefinedOpcodes : Prop :=
  ∀ s : State, s.Running →
    (s.stepReport = .faulted ↔ s.cfg.undefPolicy = .fault ∧ s.byteAt s.pc ∈ undefinedOpcodes) ∧
    (s.stepReport = .ran ↔ ¬ (s.cfg.undefPolicy = .fault ∧ s.byteAt s.pc ∈ undefinedOpcodes))

/-- R288, R289, R38 (the spec's decisions D7 and D20): a halted state is a fixed point of any number of
steps, and a faulted state of none. -/
def Obligations.EndedRunsStayEnded : Prop :=
  ∀ (s : State) (k : Nat),
    (s.runEnd = some .normal → Host.Core.run Sys2Proof.core k s = .next s) ∧
    (∀ u, s.faultMark = some u →
      s.runEnd = some .abnormal ∧ Host.Core.run Sys2Proof.core (k + 1) s = .fault (.stopped u.addr u.opcode))

/-! ### Memory -/

/-- R54, R55, R58, R59 (the order of the two accesses is the spec's decision D10): a word write is its two
bytes, low at addr and high at addr + 1 modulo 65536, and no other byte; a word read after it gives the
word back; a byte write is that byte alone. -/
def Obligations.MemoryReadsBackWhatWasWritten : Prop :=
  ∀ (s : State) (x y w : Word) (v : Byte), s.mem.wf →
    (s.memWrite1 x v).byteAt y = (if y = x then v else s.byteAt y) ∧
    (s.memWrite2 x w).byteAt y = (if y = x then lo8 w else if y = x + 1 then hi8 w else s.byteAt y) ∧
    ((s.memWrite2 x w).memRead2 x).1 = w ∧
    (s.memRead2 x).1 = cat16 (s.byteAt (x + 1)) (s.byteAt x)

/-- Equal memories are equal data: two canonical memories that read alike everywhere are the same list
(the canonical form is the model's; log entry 4). -/
def Obligations.CanonicalMemoriesThatReadAlikeAreEqual : Prop :=
  ∀ m m' : Memory, m.wf → m'.wf → (∀ x : Word, m.read8 x.toNat = m'.read8 x.toNat) → m = m'

/-- Every step and every host interaction keeps memory canonical (the form is the model's; log entry 4). -/
def Obligations.MemoryStaysCanonical : Prop :=
  (∀ s t : State, s.mem.wf → step s = .next t → t.mem.wf) ∧
  ∀ (s : State) (op : HostOp), s.mem.wf → (s.hostDo op).mem.wf

/-- R61 (R57 apart): no instruction changes a byte of memory outside the bytes it stores to, which are
computed from its rule and the state. -/
def Obligations.MemoryFrame : Prop :=
  ∀ (f : Form) (s : State), ∃ t, exec f.instr s = .next t ∧
    ∀ x : Word, x ∉ f.storedAt s → t.byteAt x = s.byteAt x

/-! ### Frames over all instructions -/

/-- R29: which flags an instruction may write; branches, taken or not, write none. -/
def Obligations.FlagFrame : Prop :=
  ∀ (f : Form) (s : State), ∃ t, exec f.instr s = .next t ∧
    match f.flagsWritten with
    | .none => t.flags = s.flags
    | .carry => t.flags = { s.flags with cy := t.flags.cy }
    | .allButCarry => t.flags.cy = s.flags.cy
    | .all => True

/-- R21, R31: a register that is no destination of an instruction is unchanged, and SP but by the
instructions that name it, push, pop, call, return or restart. -/
def Obligations.RegisterFrame : Prop :=
  ∀ (f : Form) (s : State), ∃ t, exec f.instr s = .next t ∧
    (∀ r : Reg, r ∉ f.regsWritten → t.getReg r = s.getReg r) ∧ (f.spWritten = false → t.sp = s.sp)

/-- R30, R33, R34, R37, R38, R72: INTE is written by EI and DI alone, HALTED by HLT alone, FAULT by an
undefined value alone under the policy fault, the I/O history by IN and OUT alone (log entry 3); IR and the
parameters (log entry 1) by no execute part. -/
def Obligations.ControlFrame : Prop :=
  ∀ (f : Form) (s : State), ∃ t, exec f.instr s = .next t ∧
    (f ≠ .ei → f ≠ .di → t.inte = s.inte) ∧
    (f ≠ .hlt → t.halted = s.halted) ∧
    ((∀ u, f = .undef u → s.cfg.undefPolicy ≠ .fault) → t.faultMark = s.faultMark) ∧
    ((∀ p, f ≠ .inPort p) → (∀ p, f ≠ .outPort p) → t.io = s.io) ∧
    t.ir = s.ir ∧ t.cfg = s.cfg

/-- R57, R61, R73 (the spec's decisions D8, D10 and D11): after the execute part AB and DB are the address
and byte of the instruction's last data access, and as the fetch left them if it makes none. -/
def Obligations.BusObservablesShowTheLastAccess : Prop :=
  ∀ (f : Form) (s : State), ∃ t, exec f.instr s = .next t ∧ (t.ab, t.db) = (f.lastAccess s).getD (s.ab, s.db)

/-- R35, R36, R37: no instruction reads AB, DB or IR: from states that differ in them alone a step gives the
same state, and an instruction gives states that differ in them alone. -/
def Obligations.NoInstructionReadsTheObservables : Prop :=
  (∀ (s : State) (x : Word) (y z : Byte), s.Running → step { s with ab := x, db := y, ir := z } = step s) ∧
  ∀ (f : Form) (s : State) (x : Word) (y z : Byte), ∃ t x' y',
    exec f.instr s = .next t ∧
    exec f.instr { s with ab := x, db := y, ir := z } = .next { t with ab := x', db := y', ir := z }

/-- R33, R260: no instruction reads INTE: changing it changes nothing else in what the instruction does. -/
def Obligations.NoInstructionReadsInte : Prop :=
  ∀ (f : Form) (s : State) (b : Bool), ∃ t,
    exec f.instr s = .next t ∧
    exec f.instr { s with inte := b } =
      .next { t with inte := if f = .ei then true else if f = .di then false else b }

/-! ### Invariants -/

/-- The reset state meets both invariants: canonical memory and the control invariant. That memory has a
canonical form, and that nothing is listed in it at reset, are the model's choice (log entry 4). -/
def Obligations.ResetMeetsTheInvariants : Prop :=
  State.reset.mem.wf ∧ ControlInv State.reset ∧ ∀ s : State, ControlInv s.hostReset

/-- R252, R261, R240 (the spec's decisions D1 and D7): every step keeps the control invariant: a FAULT mark
names an undefined value at the address before PC, held in IR, under the policy fault and never beside
HALTED; a halted core fetched HLT last. -/
def Obligations.StepKeepsTheControlInvariant : Prop :=
  ∀ s t : State, ControlInv s → step s = .next t → ControlInv t

/-! ### The host -/

/-- R290 to R293 (the current address being AB is the spec's decision D9, set_entry its decision D23): the
panel operations, each with every field it changes. -/
def Obligations.PanelOperations : Prop :=
  ∀ (s : State) (data : Byte) (address : Word),
    s.deposit data = { s with mem := s.mem.write8 s.ab.toNat data, db := data } ∧
    s.depositNext data = { s with mem := s.mem.write8 s.ab.toNat data, db := data, ab := s.ab + 1 } ∧
    s.examine address false = { s with ab := address, db := s.byteAt address } ∧
    s.examine address true = { s with ab := address, db := s.byteAt address, pc := address } ∧
    s.examineNext = { s with ab := s.ab + 1, db := s.byteAt (s.ab + 1) }

/-- R294, R295: apart from reset, a host interaction changes no core state but memory, AB, DB and (examine
with set_entry) PC; image loading changes memory alone. -/
def Obligations.HostInteractionsLeaveRegistersAlone : Prop :=
  ∀ (s : State) (op : HostOp), op ≠ .reset →
    (∃ m x v p, s.hostDo op = { s with mem := m, ab := x, db := v, pc := p }) ∧
    ((∀ address, op ≠ .examine address true) → (s.hostDo op).pc = s.pc) ∧
    (∀ address bytes, op = .loadImage address bytes → ∃ m, s.hostDo op = { s with mem := m })

/-- W5 (R291 to R293, the spec's decision D9), for any number of bytes: what deposit_next put in memory from
an examined address on, examine and examine_next show on DB in order, with PC where it was. -/
def Obligations.ExamineShowsWhatWasDeposited : Prop :=
  ∀ (s : State) (address : Word) (bytes : List Byte), s.mem.wf → bytes.length ≤ 65536 →
    let t := bytes.foldl State.depositNext (s.examine address false)
    ∀ (k : Nat) (hk : k < bytes.length),
      (State.examineNext^[k] (t.examine address false)).db = bytes[k] ∧
      (State.examineNext^[k] (t.examine address false)).pc = s.pc
end

