-- ==== Sys2Proof/Laws/Bits.lean ====
section
/-! SUPPORT. The laws of the byte-order helpers: hi8, lo8 and cat16 as arithmetic and as inverses. -/

namespace Sys2Proof.Machine

theorem cat16_toNat (h l : Byte) : (cat16 h l).toNat = h.toNat * 256 + l.toNat := by
  simp only [cat16, BitVec.toNat_append]
  rw [← Nat.shiftLeft_add_eq_or_of_lt l.isLt, Nat.shiftLeft_eq]

theorem hi8_toNat (w : Word) : (hi8 w).toNat = w.toNat / 256 := by
  have := w.isLt
  simp only [hi8, BitVec.extractLsb'_toNat, Nat.shiftRight_eq_div_pow]
  omega

theorem lo8_toNat (w : Word) : (lo8 w).toNat = w.toNat % 256 := by
  simp [lo8, BitVec.extractLsb'_toNat]

@[simp] theorem cat16_hi8_lo8 (w : Word) : cat16 (hi8 w) (lo8 w) = w := by
  apply BitVec.eq_of_toNat_eq
  rw [cat16_toNat, hi8_toNat, lo8_toNat]
  omega

@[simp] theorem hi8_cat16 (h l : Byte) : hi8 (cat16 h l) = h := by
  have := l.isLt
  apply BitVec.eq_of_toNat_eq
  rw [hi8_toNat, cat16_toNat]
  omega

@[simp] theorem lo8_cat16 (h l : Byte) : lo8 (cat16 h l) = l := by
  have := l.isLt
  apply BitVec.eq_of_toNat_eq
  rw [lo8_toNat, cat16_toNat]
  omega

/-- Two steps of one are one step of two, modulo 65536. -/
theorem add_one_one (x : Word) : x + 1 + 1 = x + 2 := by bv_omega

/-- The high byte of a pushed word stands just below the old SP. -/
theorem sub_two_add_one (x : Word) : x - 2 + 1 = x - 1 := by bv_omega

end Sys2Proof.Machine
end

