-- ==== Sys2Proof/Laws/State.lean ====
section
/-! SUPPORT. One lemma per field per named update of State, true by rfl and tagged for simp, so that no later proof unfolds a record update; and the read-after-write laws of the register file. -/

namespace Sys2Proof.Machine

variable (s : State)

/-! ### observe -/

@[simp] theorem observe_a (x : Word) (v : Byte) : (s.observe x v).a = s.a := rfl
@[simp] theorem observe_b (x : Word) (v : Byte) : (s.observe x v).b = s.b := rfl
@[simp] theorem observe_c (x : Word) (v : Byte) : (s.observe x v).c = s.c := rfl
@[simp] theorem observe_d (x : Word) (v : Byte) : (s.observe x v).d = s.d := rfl
@[simp] theorem observe_e (x : Word) (v : Byte) : (s.observe x v).e = s.e := rfl
@[simp] theorem observe_h (x : Word) (v : Byte) : (s.observe x v).h = s.h := rfl
@[simp] theorem observe_l (x : Word) (v : Byte) : (s.observe x v).l = s.l := rfl
@[simp] theorem observe_flags (x : Word) (v : Byte) : (s.observe x v).flags = s.flags := rfl
@[simp] theorem observe_sp (x : Word) (v : Byte) : (s.observe x v).sp = s.sp := rfl
@[simp] theorem observe_pc (x : Word) (v : Byte) : (s.observe x v).pc = s.pc := rfl
@[simp] theorem observe_inte (x : Word) (v : Byte) : (s.observe x v).inte = s.inte := rfl
@[simp] theorem observe_halted (x : Word) (v : Byte) : (s.observe x v).halted = s.halted := rfl
@[simp] theorem observe_ab (x : Word) (v : Byte) : (s.observe x v).ab = x := rfl
@[simp] theorem observe_db (x : Word) (v : Byte) : (s.observe x v).db = v := rfl
@[simp] theorem observe_ir (x : Word) (v : Byte) : (s.observe x v).ir = s.ir := rfl
@[simp] theorem observe_faultMark (x : Word) (v : Byte) : (s.observe x v).faultMark = s.faultMark := rfl
@[simp] theorem observe_mem (x : Word) (v : Byte) : (s.observe x v).mem = s.mem := rfl
@[simp] theorem observe_cfg (x : Word) (v : Byte) : (s.observe x v).cfg = s.cfg := rfl
@[simp] theorem observe_io (x : Word) (v : Byte) : (s.observe x v).io = s.io := rfl

/-! ### memRead1 -/

@[simp] theorem memRead1_a (x : Word) : ((s.memRead1 x).2).a = s.a := rfl
@[simp] theorem memRead1_b (x : Word) : ((s.memRead1 x).2).b = s.b := rfl
@[simp] theorem memRead1_c (x : Word) : ((s.memRead1 x).2).c = s.c := rfl
@[simp] theorem memRead1_d (x : Word) : ((s.memRead1 x).2).d = s.d := rfl
@[simp] theorem memRead1_e (x : Word) : ((s.memRead1 x).2).e = s.e := rfl
@[simp] theorem memRead1_h (x : Word) : ((s.memRead1 x).2).h = s.h := rfl
@[simp] theorem memRead1_l (x : Word) : ((s.memRead1 x).2).l = s.l := rfl
@[simp] theorem memRead1_flags (x : Word) : ((s.memRead1 x).2).flags = s.flags := rfl
@[simp] theorem memRead1_sp (x : Word) : ((s.memRead1 x).2).sp = s.sp := rfl
@[simp] theorem memRead1_pc (x : Word) : ((s.memRead1 x).2).pc = s.pc := rfl
@[simp] theorem memRead1_inte (x : Word) : ((s.memRead1 x).2).inte = s.inte := rfl
@[simp] theorem memRead1_halted (x : Word) : ((s.memRead1 x).2).halted = s.halted := rfl
@[simp] theorem memRead1_ab (x : Word) : ((s.memRead1 x).2).ab = x := rfl
@[simp] theorem memRead1_db (x : Word) : ((s.memRead1 x).2).db = s.byteAt x := rfl
@[simp] theorem memRead1_ir (x : Word) : ((s.memRead1 x).2).ir = s.ir := rfl
@[simp] theorem memRead1_faultMark (x : Word) : ((s.memRead1 x).2).faultMark = s.faultMark := rfl
@[simp] theorem memRead1_mem (x : Word) : ((s.memRead1 x).2).mem = s.mem := rfl
@[simp] theorem memRead1_cfg (x : Word) : ((s.memRead1 x).2).cfg = s.cfg := rfl
@[simp] theorem memRead1_io (x : Word) : ((s.memRead1 x).2).io = s.io := rfl
@[simp] theorem memRead1_val (x : Word) : (s.memRead1 x).1 = s.byteAt x := rfl

/-! ### memWrite1 -/

@[simp] theorem memWrite1_a (x : Word) (v : Byte) : (s.memWrite1 x v).a = s.a := rfl
@[simp] theorem memWrite1_b (x : Word) (v : Byte) : (s.memWrite1 x v).b = s.b := rfl
@[simp] theorem memWrite1_c (x : Word) (v : Byte) : (s.memWrite1 x v).c = s.c := rfl
@[simp] theorem memWrite1_d (x : Word) (v : Byte) : (s.memWrite1 x v).d = s.d := rfl
@[simp] theorem memWrite1_e (x : Word) (v : Byte) : (s.memWrite1 x v).e = s.e := rfl
@[simp] theorem memWrite1_h (x : Word) (v : Byte) : (s.memWrite1 x v).h = s.h := rfl
@[simp] theorem memWrite1_l (x : Word) (v : Byte) : (s.memWrite1 x v).l = s.l := rfl
@[simp] theorem memWrite1_flags (x : Word) (v : Byte) : (s.memWrite1 x v).flags = s.flags := rfl
@[simp] theorem memWrite1_sp (x : Word) (v : Byte) : (s.memWrite1 x v).sp = s.sp := rfl
@[simp] theorem memWrite1_pc (x : Word) (v : Byte) : (s.memWrite1 x v).pc = s.pc := rfl
@[simp] theorem memWrite1_inte (x : Word) (v : Byte) : (s.memWrite1 x v).inte = s.inte := rfl
@[simp] theorem memWrite1_halted (x : Word) (v : Byte) : (s.memWrite1 x v).halted = s.halted := rfl
@[simp] theorem memWrite1_ab (x : Word) (v : Byte) : (s.memWrite1 x v).ab = x := rfl
@[simp] theorem memWrite1_db (x : Word) (v : Byte) : (s.memWrite1 x v).db = v := rfl
@[simp] theorem memWrite1_ir (x : Word) (v : Byte) : (s.memWrite1 x v).ir = s.ir := rfl
@[simp] theorem memWrite1_faultMark (x : Word) (v : Byte) : (s.memWrite1 x v).faultMark = s.faultMark := rfl
@[simp] theorem memWrite1_mem (x : Word) (v : Byte) : (s.memWrite1 x v).mem = s.mem.write8 x.toNat v := rfl
@[simp] theorem memWrite1_cfg (x : Word) (v : Byte) : (s.memWrite1 x v).cfg = s.cfg := rfl
@[simp] theorem memWrite1_io (x : Word) (v : Byte) : (s.memWrite1 x v).io = s.io := rfl

/-! ### memRead2 -/

@[simp] theorem memRead2_a (x : Word) : ((s.memRead2 x).2).a = s.a := rfl
@[simp] theorem memRead2_b (x : Word) : ((s.memRead2 x).2).b = s.b := rfl
@[simp] theorem memRead2_c (x : Word) : ((s.memRead2 x).2).c = s.c := rfl
@[simp] theorem memRead2_d (x : Word) : ((s.memRead2 x).2).d = s.d := rfl
@[simp] theorem memRead2_e (x : Word) : ((s.memRead2 x).2).e = s.e := rfl
@[simp] theorem memRead2_h (x : Word) : ((s.memRead2 x).2).h = s.h := rfl
@[simp] theorem memRead2_l (x : Word) : ((s.memRead2 x).2).l = s.l := rfl
@[simp] theorem memRead2_flags (x : Word) : ((s.memRead2 x).2).flags = s.flags := rfl
@[simp] theorem memRead2_sp (x : Word) : ((s.memRead2 x).2).sp = s.sp := rfl
@[simp] theorem memRead2_pc (x : Word) : ((s.memRead2 x).2).pc = s.pc := rfl
@[simp] theorem memRead2_inte (x : Word) : ((s.memRead2 x).2).inte = s.inte := rfl
@[simp] theorem memRead2_halted (x : Word) : ((s.memRead2 x).2).halted = s.halted := rfl
@[simp] theorem memRead2_ab (x : Word) : ((s.memRead2 x).2).ab = x + 1 := rfl
@[simp] theorem memRead2_db (x : Word) : ((s.memRead2 x).2).db = s.byteAt (x + 1) := rfl
@[simp] theorem memRead2_ir (x : Word) : ((s.memRead2 x).2).ir = s.ir := rfl
@[simp] theorem memRead2_faultMark (x : Word) : ((s.memRead2 x).2).faultMark = s.faultMark := rfl
@[simp] theorem memRead2_mem (x : Word) : ((s.memRead2 x).2).mem = s.mem := rfl
@[simp] theorem memRead2_cfg (x : Word) : ((s.memRead2 x).2).cfg = s.cfg := rfl
@[simp] theorem memRead2_io (x : Word) : ((s.memRead2 x).2).io = s.io := rfl
@[simp] theorem memRead2_val (x : Word) : (s.memRead2 x).1 = cat16 (s.byteAt (x + 1)) (s.byteAt x) := rfl

/-! ### memWrite2 -/

@[simp] theorem memWrite2_a (x w : Word) : (s.memWrite2 x w).a = s.a := rfl
@[simp] theorem memWrite2_b (x w : Word) : (s.memWrite2 x w).b = s.b := rfl
@[simp] theorem memWrite2_c (x w : Word) : (s.memWrite2 x w).c = s.c := rfl
@[simp] theorem memWrite2_d (x w : Word) : (s.memWrite2 x w).d = s.d := rfl
@[simp] theorem memWrite2_e (x w : Word) : (s.memWrite2 x w).e = s.e := rfl
@[simp] theorem memWrite2_h (x w : Word) : (s.memWrite2 x w).h = s.h := rfl
@[simp] theorem memWrite2_l (x w : Word) : (s.memWrite2 x w).l = s.l := rfl
@[simp] theorem memWrite2_flags (x w : Word) : (s.memWrite2 x w).flags = s.flags := rfl
@[simp] theorem memWrite2_sp (x w : Word) : (s.memWrite2 x w).sp = s.sp := rfl
@[simp] theorem memWrite2_pc (x w : Word) : (s.memWrite2 x w).pc = s.pc := rfl
@[simp] theorem memWrite2_inte (x w : Word) : (s.memWrite2 x w).inte = s.inte := rfl
@[simp] theorem memWrite2_halted (x w : Word) : (s.memWrite2 x w).halted = s.halted := rfl
@[simp] theorem memWrite2_ab (x w : Word) : (s.memWrite2 x w).ab = x + 1 := rfl
@[simp] theorem memWrite2_db (x w : Word) : (s.memWrite2 x w).db = hi8 w := rfl
@[simp] theorem memWrite2_ir (x w : Word) : (s.memWrite2 x w).ir = s.ir := rfl
@[simp] theorem memWrite2_faultMark (x w : Word) : (s.memWrite2 x w).faultMark = s.faultMark := rfl
@[simp] theorem memWrite2_mem (x w : Word) : (s.memWrite2 x w).mem = (s.mem.write8 x.toNat (lo8 w)).write8 (x + 1).toNat (hi8 w) := rfl
@[simp] theorem memWrite2_cfg (x w : Word) : (s.memWrite2 x w).cfg = s.cfg := rfl
@[simp] theorem memWrite2_io (x w : Word) : (s.memWrite2 x w).io = s.io := rfl

/-! ### fetch8 -/

@[simp] theorem fetch8_a : (s.fetch8.2).a = s.a := rfl
@[simp] theorem fetch8_b : (s.fetch8.2).b = s.b := rfl
@[simp] theorem fetch8_c : (s.fetch8.2).c = s.c := rfl
@[simp] theorem fetch8_d : (s.fetch8.2).d = s.d := rfl
@[simp] theorem fetch8_e : (s.fetch8.2).e = s.e := rfl
@[simp] theorem fetch8_h : (s.fetch8.2).h = s.h := rfl
@[simp] theorem fetch8_l : (s.fetch8.2).l = s.l := rfl
@[simp] theorem fetch8_flags : (s.fetch8.2).flags = s.flags := rfl
@[simp] theorem fetch8_sp : (s.fetch8.2).sp = s.sp := rfl
@[simp] theorem fetch8_pc : (s.fetch8.2).pc = s.pc + 1 := rfl
@[simp] theorem fetch8_inte : (s.fetch8.2).inte = s.inte := rfl
@[simp] theorem fetch8_halted : (s.fetch8.2).halted = s.halted := rfl
@[simp] theorem fetch8_ab : (s.fetch8.2).ab = s.pc := rfl
@[simp] theorem fetch8_db : (s.fetch8.2).db = s.byteAt s.pc := rfl
@[simp] theorem fetch8_ir : (s.fetch8.2).ir = s.ir := rfl
@[simp] theorem fetch8_faultMark : (s.fetch8.2).faultMark = s.faultMark := rfl
@[simp] theorem fetch8_mem : (s.fetch8.2).mem = s.mem := rfl
@[simp] theorem fetch8_cfg : (s.fetch8.2).cfg = s.cfg := rfl
@[simp] theorem fetch8_io : (s.fetch8.2).io = s.io := rfl
@[simp] theorem fetch8_val : s.fetch8.1 = s.byteAt s.pc := rfl

/-! ### fetch16 -/

@[simp] theorem fetch16_a : (s.fetch16.2).a = s.a := rfl
@[simp] theorem fetch16_b : (s.fetch16.2).b = s.b := rfl
@[simp] theorem fetch16_c : (s.fetch16.2).c = s.c := rfl
@[simp] theorem fetch16_d : (s.fetch16.2).d = s.d := rfl
@[simp] theorem fetch16_e : (s.fetch16.2).e = s.e := rfl
@[simp] theorem fetch16_h : (s.fetch16.2).h = s.h := rfl
@[simp] theorem fetch16_l : (s.fetch16.2).l = s.l := rfl
@[simp] theorem fetch16_flags : (s.fetch16.2).flags = s.flags := rfl
@[simp] theorem fetch16_sp : (s.fetch16.2).sp = s.sp := rfl
@[simp] theorem fetch16_pc : (s.fetch16.2).pc = s.pc + 1 + 1 := rfl
@[simp] theorem fetch16_inte : (s.fetch16.2).inte = s.inte := rfl
@[simp] theorem fetch16_halted : (s.fetch16.2).halted = s.halted := rfl
@[simp] theorem fetch16_ab : (s.fetch16.2).ab = s.pc + 1 := rfl
@[simp] theorem fetch16_db : (s.fetch16.2).db = s.byteAt (s.pc + 1) := rfl
@[simp] theorem fetch16_ir : (s.fetch16.2).ir = s.ir := rfl
@[simp] theorem fetch16_faultMark : (s.fetch16.2).faultMark = s.faultMark := rfl
@[simp] theorem fetch16_mem : (s.fetch16.2).mem = s.mem := rfl
@[simp] theorem fetch16_cfg : (s.fetch16.2).cfg = s.cfg := rfl
@[simp] theorem fetch16_io : (s.fetch16.2).io = s.io := rfl
@[simp] theorem fetch16_val : s.fetch16.1 = cat16 (s.byteAt (s.pc + 1)) (s.byteAt s.pc) := rfl

/-! ### fetchOpcode -/

@[simp] theorem fetchOpcode_a : (s.fetchOpcode.2).a = s.a := rfl
@[simp] theorem fetchOpcode_b : (s.fetchOpcode.2).b = s.b := rfl
@[simp] theorem fetchOpcode_c : (s.fetchOpcode.2).c = s.c := rfl
@[simp] theorem fetchOpcode_d : (s.fetchOpcode.2).d = s.d := rfl
@[simp] theorem fetchOpcode_e : (s.fetchOpcode.2).e = s.e := rfl
@[simp] theorem fetchOpcode_h : (s.fetchOpcode.2).h = s.h := rfl
@[simp] theorem fetchOpcode_l : (s.fetchOpcode.2).l = s.l := rfl
@[simp] theorem fetchOpcode_flags : (s.fetchOpcode.2).flags = s.flags := rfl
@[simp] theorem fetchOpcode_sp : (s.fetchOpcode.2).sp = s.sp := rfl
@[simp] theorem fetchOpcode_pc : (s.fetchOpcode.2).pc = s.pc + 1 := rfl
@[simp] theorem fetchOpcode_inte : (s.fetchOpcode.2).inte = s.inte := rfl
@[simp] theorem fetchOpcode_halted : (s.fetchOpcode.2).halted = s.halted := rfl
@[simp] theorem fetchOpcode_ab : (s.fetchOpcode.2).ab = s.pc := rfl
@[simp] theorem fetchOpcode_db : (s.fetchOpcode.2).db = s.byteAt s.pc := rfl
@[simp] theorem fetchOpcode_ir : (s.fetchOpcode.2).ir = s.byteAt s.pc := rfl
@[simp] theorem fetchOpcode_faultMark : (s.fetchOpcode.2).faultMark = s.faultMark := rfl
@[simp] theorem fetchOpcode_mem : (s.fetchOpcode.2).mem = s.mem := rfl
@[simp] theorem fetchOpcode_cfg : (s.fetchOpcode.2).cfg = s.cfg := rfl
@[simp] theorem fetchOpcode_io : (s.fetchOpcode.2).io = s.io := rfl
@[simp] theorem fetchOpcode_val : s.fetchOpcode.1 = s.byteAt s.pc := rfl

/-! ### push -/

@[simp] theorem push_a (w : Word) : (s.push w).a = s.a := rfl
@[simp] theorem push_b (w : Word) : (s.push w).b = s.b := rfl
@[simp] theorem push_c (w : Word) : (s.push w).c = s.c := rfl
@[simp] theorem push_d (w : Word) : (s.push w).d = s.d := rfl
@[simp] theorem push_e (w : Word) : (s.push w).e = s.e := rfl
@[simp] theorem push_h (w : Word) : (s.push w).h = s.h := rfl
@[simp] theorem push_l (w : Word) : (s.push w).l = s.l := rfl
@[simp] theorem push_flags (w : Word) : (s.push w).flags = s.flags := rfl
@[simp] theorem push_sp (w : Word) : (s.push w).sp = s.sp - 2 := rfl
@[simp] theorem push_pc (w : Word) : (s.push w).pc = s.pc := rfl
@[simp] theorem push_inte (w : Word) : (s.push w).inte = s.inte := rfl
@[simp] theorem push_halted (w : Word) : (s.push w).halted = s.halted := rfl
@[simp] theorem push_ab (w : Word) : (s.push w).ab = s.sp - 2 + 1 := rfl
@[simp] theorem push_db (w : Word) : (s.push w).db = hi8 w := rfl
@[simp] theorem push_ir (w : Word) : (s.push w).ir = s.ir := rfl
@[simp] theorem push_faultMark (w : Word) : (s.push w).faultMark = s.faultMark := rfl
@[simp] theorem push_mem (w : Word) : (s.push w).mem = (s.mem.write8 (s.sp - 2).toNat (lo8 w)).write8 (s.sp - 2 + 1).toNat (hi8 w) := rfl
@[simp] theorem push_cfg (w : Word) : (s.push w).cfg = s.cfg := rfl
@[simp] theorem push_io (w : Word) : (s.push w).io = s.io := rfl

/-! ### pop -/

@[simp] theorem pop_a : (s.pop.2).a = s.a := rfl
@[simp] theorem pop_b : (s.pop.2).b = s.b := rfl
@[simp] theorem pop_c : (s.pop.2).c = s.c := rfl
@[simp] theorem pop_d : (s.pop.2).d = s.d := rfl
@[simp] theorem pop_e : (s.pop.2).e = s.e := rfl
@[simp] theorem pop_h : (s.pop.2).h = s.h := rfl
@[simp] theorem pop_l : (s.pop.2).l = s.l := rfl
@[simp] theorem pop_flags : (s.pop.2).flags = s.flags := rfl
@[simp] theorem pop_sp : (s.pop.2).sp = s.sp + 2 := rfl
@[simp] theorem pop_pc : (s.pop.2).pc = s.pc := rfl
@[simp] theorem pop_inte : (s.pop.2).inte = s.inte := rfl
@[simp] theorem pop_halted : (s.pop.2).halted = s.halted := rfl
@[simp] theorem pop_ab : (s.pop.2).ab = s.sp + 1 := rfl
@[simp] theorem pop_db : (s.pop.2).db = s.byteAt (s.sp + 1) := rfl
@[simp] theorem pop_ir : (s.pop.2).ir = s.ir := rfl
@[simp] theorem pop_faultMark : (s.pop.2).faultMark = s.faultMark := rfl
@[simp] theorem pop_mem : (s.pop.2).mem = s.mem := rfl
@[simp] theorem pop_cfg : (s.pop.2).cfg = s.cfg := rfl
@[simp] theorem pop_io : (s.pop.2).io = s.io := rfl
@[simp] theorem pop_val : s.pop.1 = cat16 (s.byteAt (s.sp + 1)) (s.byteAt s.sp) := rfl

/-! ### setReg -/

@[simp] theorem setReg_flags (r : Reg) (v : Byte) : (s.setReg r v).flags = s.flags := by cases r <;> rfl
@[simp] theorem setReg_sp (r : Reg) (v : Byte) : (s.setReg r v).sp = s.sp := by cases r <;> rfl
@[simp] theorem setReg_pc (r : Reg) (v : Byte) : (s.setReg r v).pc = s.pc := by cases r <;> rfl
@[simp] theorem setReg_inte (r : Reg) (v : Byte) : (s.setReg r v).inte = s.inte := by cases r <;> rfl
@[simp] theorem setReg_halted (r : Reg) (v : Byte) : (s.setReg r v).halted = s.halted := by cases r <;> rfl
@[simp] theorem setReg_ab (r : Reg) (v : Byte) : (s.setReg r v).ab = s.ab := by cases r <;> rfl
@[simp] theorem setReg_db (r : Reg) (v : Byte) : (s.setReg r v).db = s.db := by cases r <;> rfl
@[simp] theorem setReg_ir (r : Reg) (v : Byte) : (s.setReg r v).ir = s.ir := by cases r <;> rfl
@[simp] theorem setReg_faultMark (r : Reg) (v : Byte) : (s.setReg r v).faultMark = s.faultMark := by cases r <;> rfl
@[simp] theorem setReg_mem (r : Reg) (v : Byte) : (s.setReg r v).mem = s.mem := by cases r <;> rfl
@[simp] theorem setReg_cfg (r : Reg) (v : Byte) : (s.setReg r v).cfg = s.cfg := by cases r <;> rfl
@[simp] theorem setReg_io (r : Reg) (v : Byte) : (s.setReg r v).io = s.io := by cases r <;> rfl

/-- A register reads back what was written to it, and no other register changes (10_state.md R24, R25). -/
theorem getReg_setReg (r r' : Reg) (v : Byte) :
    (s.setReg r v).getReg r' = if r' = r then v else s.getReg r' := by
  cases r <;> cases r' <;> rfl

@[simp] theorem getReg_setReg_same (r : Reg) (v : Byte) : (s.setReg r v).getReg r = v := by
  cases r <;> rfl

@[simp] theorem setReg_byteAt (r : Reg) (v : Byte) (x : Word) : (s.setReg r v).byteAt x = s.byteAt x := by
  cases r <;> rfl

/-! ### setHl -/

@[simp] theorem setHl_a (w : Word) : (s.setHl w).a = s.a := rfl
@[simp] theorem setHl_b (w : Word) : (s.setHl w).b = s.b := rfl
@[simp] theorem setHl_c (w : Word) : (s.setHl w).c = s.c := rfl
@[simp] theorem setHl_d (w : Word) : (s.setHl w).d = s.d := rfl
@[simp] theorem setHl_e (w : Word) : (s.setHl w).e = s.e := rfl
@[simp] theorem setHl_h (w : Word) : (s.setHl w).h = hi8 w := rfl
@[simp] theorem setHl_l (w : Word) : (s.setHl w).l = lo8 w := rfl
@[simp] theorem setHl_flags (w : Word) : (s.setHl w).flags = s.flags := rfl
@[simp] theorem setHl_sp (w : Word) : (s.setHl w).sp = s.sp := rfl
@[simp] theorem setHl_pc (w : Word) : (s.setHl w).pc = s.pc := rfl
@[simp] theorem setHl_inte (w : Word) : (s.setHl w).inte = s.inte := rfl
@[simp] theorem setHl_halted (w : Word) : (s.setHl w).halted = s.halted := rfl
@[simp] theorem setHl_ab (w : Word) : (s.setHl w).ab = s.ab := rfl
@[simp] theorem setHl_db (w : Word) : (s.setHl w).db = s.db := rfl
@[simp] theorem setHl_ir (w : Word) : (s.setHl w).ir = s.ir := rfl
@[simp] theorem setHl_faultMark (w : Word) : (s.setHl w).faultMark = s.faultMark := rfl
@[simp] theorem setHl_mem (w : Word) : (s.setHl w).mem = s.mem := rfl
@[simp] theorem setHl_cfg (w : Word) : (s.setHl w).cfg = s.cfg := rfl
@[simp] theorem setHl_io (w : Word) : (s.setHl w).io = s.io := rfl

/-! ### setPsw -/

@[simp] theorem setPsw_a (w : Word) : (s.setPsw w).a = hi8 w := rfl
@[simp] theorem setPsw_b (w : Word) : (s.setPsw w).b = s.b := rfl
@[simp] theorem setPsw_c (w : Word) : (s.setPsw w).c = s.c := rfl
@[simp] theorem setPsw_d (w : Word) : (s.setPsw w).d = s.d := rfl
@[simp] theorem setPsw_e (w : Word) : (s.setPsw w).e = s.e := rfl
@[simp] theorem setPsw_h (w : Word) : (s.setPsw w).h = s.h := rfl
@[simp] theorem setPsw_l (w : Word) : (s.setPsw w).l = s.l := rfl
@[simp] theorem setPsw_flags (w : Word) : (s.setPsw w).flags = Flags.ofByte (lo8 w) := rfl
@[simp] theorem setPsw_sp (w : Word) : (s.setPsw w).sp = s.sp := rfl
@[simp] theorem setPsw_pc (w : Word) : (s.setPsw w).pc = s.pc := rfl
@[simp] theorem setPsw_inte (w : Word) : (s.setPsw w).inte = s.inte := rfl
@[simp] theorem setPsw_halted (w : Word) : (s.setPsw w).halted = s.halted := rfl
@[simp] theorem setPsw_ab (w : Word) : (s.setPsw w).ab = s.ab := rfl
@[simp] theorem setPsw_db (w : Word) : (s.setPsw w).db = s.db := rfl
@[simp] theorem setPsw_ir (w : Word) : (s.setPsw w).ir = s.ir := rfl
@[simp] theorem setPsw_faultMark (w : Word) : (s.setPsw w).faultMark = s.faultMark := rfl
@[simp] theorem setPsw_mem (w : Word) : (s.setPsw w).mem = s.mem := rfl
@[simp] theorem setPsw_cfg (w : Word) : (s.setPsw w).cfg = s.cfg := rfl
@[simp] theorem setPsw_io (w : Word) : (s.setPsw w).io = s.io := rfl

/-! ### setCy -/

@[simp] theorem setCy_a (cy : Bool) : (s.setCy cy).a = s.a := rfl
@[simp] theorem setCy_b (cy : Bool) : (s.setCy cy).b = s.b := rfl
@[simp] theorem setCy_c (cy : Bool) : (s.setCy cy).c = s.c := rfl
@[simp] theorem setCy_d (cy : Bool) : (s.setCy cy).d = s.d := rfl
@[simp] theorem setCy_e (cy : Bool) : (s.setCy cy).e = s.e := rfl
@[simp] theorem setCy_h (cy : Bool) : (s.setCy cy).h = s.h := rfl
@[simp] theorem setCy_l (cy : Bool) : (s.setCy cy).l = s.l := rfl
@[simp] theorem setCy_flags (cy : Bool) : (s.setCy cy).flags = { s.flags with cy := cy } := rfl
@[simp] theorem setCy_sp (cy : Bool) : (s.setCy cy).sp = s.sp := rfl
@[simp] theorem setCy_pc (cy : Bool) : (s.setCy cy).pc = s.pc := rfl
@[simp] theorem setCy_inte (cy : Bool) : (s.setCy cy).inte = s.inte := rfl
@[simp] theorem setCy_halted (cy : Bool) : (s.setCy cy).halted = s.halted := rfl
@[simp] theorem setCy_ab (cy : Bool) : (s.setCy cy).ab = s.ab := rfl
@[simp] theorem setCy_db (cy : Bool) : (s.setCy cy).db = s.db := rfl
@[simp] theorem setCy_ir (cy : Bool) : (s.setCy cy).ir = s.ir := rfl
@[simp] theorem setCy_faultMark (cy : Bool) : (s.setCy cy).faultMark = s.faultMark := rfl
@[simp] theorem setCy_mem (cy : Bool) : (s.setCy cy).mem = s.mem := rfl
@[simp] theorem setCy_cfg (cy : Bool) : (s.setCy cy).cfg = s.cfg := rfl
@[simp] theorem setCy_io (cy : Bool) : (s.setCy cy).io = s.io := rfl

/-! ### setPair -/

@[simp] theorem setPair_a (p : Pair) (w : Word) : (s.setPair p w).a = s.a := by cases p <;> rfl
@[simp] theorem setPair_flags (p : Pair) (w : Word) : (s.setPair p w).flags = s.flags := by cases p <;> rfl
@[simp] theorem setPair_pc (p : Pair) (w : Word) : (s.setPair p w).pc = s.pc := by cases p <;> rfl
@[simp] theorem setPair_inte (p : Pair) (w : Word) : (s.setPair p w).inte = s.inte := by cases p <;> rfl
@[simp] theorem setPair_halted (p : Pair) (w : Word) : (s.setPair p w).halted = s.halted := by cases p <;> rfl
@[simp] theorem setPair_ab (p : Pair) (w : Word) : (s.setPair p w).ab = s.ab := by cases p <;> rfl
@[simp] theorem setPair_db (p : Pair) (w : Word) : (s.setPair p w).db = s.db := by cases p <;> rfl
@[simp] theorem setPair_ir (p : Pair) (w : Word) : (s.setPair p w).ir = s.ir := by cases p <;> rfl
@[simp] theorem setPair_faultMark (p : Pair) (w : Word) : (s.setPair p w).faultMark = s.faultMark := by cases p <;> rfl
@[simp] theorem setPair_mem (p : Pair) (w : Word) : (s.setPair p w).mem = s.mem := by cases p <;> rfl
@[simp] theorem setPair_cfg (p : Pair) (w : Word) : (s.setPair p w).cfg = s.cfg := by cases p <;> rfl
@[simp] theorem setPair_io (p : Pair) (w : Word) : (s.setPair p w).io = s.io := by cases p <;> rfl

@[simp] theorem setPair_byteAt (p : Pair) (w : Word) (x : Word) : (s.setPair p w).byteAt x = s.byteAt x := by
  cases p <;> rfl

/-! ### setStackPair -/

@[simp] theorem setStackPair_a (p : StackPair) (w : Word) : (s.setStackPair p w).a = s.a := by cases p <;> rfl
@[simp] theorem setStackPair_flags (p : StackPair) (w : Word) : (s.setStackPair p w).flags = s.flags := by cases p <;> rfl
@[simp] theorem setStackPair_sp (p : StackPair) (w : Word) : (s.setStackPair p w).sp = s.sp := by cases p <;> rfl
@[simp] theorem setStackPair_pc (p : StackPair) (w : Word) : (s.setStackPair p w).pc = s.pc := by cases p <;> rfl
@[simp] theorem setStackPair_inte (p : StackPair) (w : Word) : (s.setStackPair p w).inte = s.inte := by cases p <;> rfl
@[simp] theorem setStackPair_halted (p : StackPair) (w : Word) : (s.setStackPair p w).halted = s.halted := by cases p <;> rfl
@[simp] theorem setStackPair_ab (p : StackPair) (w : Word) : (s.setStackPair p w).ab = s.ab := by cases p <;> rfl
@[simp] theorem setStackPair_db (p : StackPair) (w : Word) : (s.setStackPair p w).db = s.db := by cases p <;> rfl
@[simp] theorem setStackPair_ir (p : StackPair) (w : Word) : (s.setStackPair p w).ir = s.ir := by cases p <;> rfl
@[simp] theorem setStackPair_faultMark (p : StackPair) (w : Word) : (s.setStackPair p w).faultMark = s.faultMark := by cases p <;> rfl
@[simp] theorem setStackPair_mem (p : StackPair) (w : Word) : (s.setStackPair p w).mem = s.mem := by cases p <;> rfl
@[simp] theorem setStackPair_cfg (p : StackPair) (w : Word) : (s.setStackPair p w).cfg = s.cfg := by cases p <;> rfl
@[simp] theorem setStackPair_io (p : StackPair) (w : Word) : (s.setStackPair p w).io = s.io := by cases p <;> rfl

/-! ### ioRead -/

@[simp] theorem ioRead_a (port : Byte) : ((s.ioRead port).2).a = s.a := rfl
@[simp] theorem ioRead_b (port : Byte) : ((s.ioRead port).2).b = s.b := rfl
@[simp] theorem ioRead_c (port : Byte) : ((s.ioRead port).2).c = s.c := rfl
@[simp] theorem ioRead_d (port : Byte) : ((s.ioRead port).2).d = s.d := rfl
@[simp] theorem ioRead_e (port : Byte) : ((s.ioRead port).2).e = s.e := rfl
@[simp] theorem ioRead_h (port : Byte) : ((s.ioRead port).2).h = s.h := rfl
@[simp] theorem ioRead_l (port : Byte) : ((s.ioRead port).2).l = s.l := rfl
@[simp] theorem ioRead_flags (port : Byte) : ((s.ioRead port).2).flags = s.flags := rfl
@[simp] theorem ioRead_sp (port : Byte) : ((s.ioRead port).2).sp = s.sp := rfl
@[simp] theorem ioRead_pc (port : Byte) : ((s.ioRead port).2).pc = s.pc := rfl
@[simp] theorem ioRead_inte (port : Byte) : ((s.ioRead port).2).inte = s.inte := rfl
@[simp] theorem ioRead_halted (port : Byte) : ((s.ioRead port).2).halted = s.halted := rfl
@[simp] theorem ioRead_ab (port : Byte) : ((s.ioRead port).2).ab = s.ab := rfl
@[simp] theorem ioRead_db (port : Byte) : ((s.ioRead port).2).db = s.db := rfl
@[simp] theorem ioRead_ir (port : Byte) : ((s.ioRead port).2).ir = s.ir := rfl
@[simp] theorem ioRead_faultMark (port : Byte) : ((s.ioRead port).2).faultMark = s.faultMark := rfl
@[simp] theorem ioRead_mem (port : Byte) : ((s.ioRead port).2).mem = s.mem := rfl
@[simp] theorem ioRead_cfg (port : Byte) : ((s.ioRead port).2).cfg = s.cfg := rfl
@[simp] theorem ioRead_io (port : Byte) : ((s.ioRead port).2).io = s.io ++ [.input port (s.portByte port)] := rfl
@[simp] theorem ioRead_val (port : Byte) : (s.ioRead port).1 = s.portByte port := rfl

/-! ### ioWrite -/

@[simp] theorem ioWrite_a (port v : Byte) : (s.ioWrite port v).a = s.a := rfl
@[simp] theorem ioWrite_b (port v : Byte) : (s.ioWrite port v).b = s.b := rfl
@[simp] theorem ioWrite_c (port v : Byte) : (s.ioWrite port v).c = s.c := rfl
@[simp] theorem ioWrite_d (port v : Byte) : (s.ioWrite port v).d = s.d := rfl
@[simp] theorem ioWrite_e (port v : Byte) : (s.ioWrite port v).e = s.e := rfl
@[simp] theorem ioWrite_h (port v : Byte) : (s.ioWrite port v).h = s.h := rfl
@[simp] theorem ioWrite_l (port v : Byte) : (s.ioWrite port v).l = s.l := rfl
@[simp] theorem ioWrite_flags (port v : Byte) : (s.ioWrite port v).flags = s.flags := rfl
@[simp] theorem ioWrite_sp (port v : Byte) : (s.ioWrite port v).sp = s.sp := rfl
@[simp] theorem ioWrite_pc (port v : Byte) : (s.ioWrite port v).pc = s.pc := rfl
@[simp] theorem ioWrite_inte (port v : Byte) : (s.ioWrite port v).inte = s.inte := rfl
@[simp] theorem ioWrite_halted (port v : Byte) : (s.ioWrite port v).halted = s.halted := rfl
@[simp] theorem ioWrite_ab (port v : Byte) : (s.ioWrite port v).ab = s.ab := rfl
@[simp] theorem ioWrite_db (port v : Byte) : (s.ioWrite port v).db = s.db := rfl
@[simp] theorem ioWrite_ir (port v : Byte) : (s.ioWrite port v).ir = s.ir := rfl
@[simp] theorem ioWrite_faultMark (port v : Byte) : (s.ioWrite port v).faultMark = s.faultMark := rfl
@[simp] theorem ioWrite_mem (port v : Byte) : (s.ioWrite port v).mem = s.mem := rfl
@[simp] theorem ioWrite_cfg (port v : Byte) : (s.ioWrite port v).cfg = s.cfg := rfl
@[simp] theorem ioWrite_io (port v : Byte) : (s.ioWrite port v).io = s.io ++ [.output port v] := rfl

/-! ### raiseUndefined -/

@[simp] theorem raiseUndefined_a (op : Byte) : (s.raiseUndefined op).a = s.a := rfl
@[simp] theorem raiseUndefined_b (op : Byte) : (s.raiseUndefined op).b = s.b := rfl
@[simp] theorem raiseUndefined_c (op : Byte) : (s.raiseUndefined op).c = s.c := rfl
@[simp] theorem raiseUndefined_d (op : Byte) : (s.raiseUndefined op).d = s.d := rfl
@[simp] theorem raiseUndefined_e (op : Byte) : (s.raiseUndefined op).e = s.e := rfl
@[simp] theorem raiseUndefined_h (op : Byte) : (s.raiseUndefined op).h = s.h := rfl
@[simp] theorem raiseUndefined_l (op : Byte) : (s.raiseUndefined op).l = s.l := rfl
@[simp] theorem raiseUndefined_flags (op : Byte) : (s.raiseUndefined op).flags = s.flags := rfl
@[simp] theorem raiseUndefined_sp (op : Byte) : (s.raiseUndefined op).sp = s.sp := rfl
@[simp] theorem raiseUndefined_pc (op : Byte) : (s.raiseUndefined op).pc = s.pc := rfl
@[simp] theorem raiseUndefined_inte (op : Byte) : (s.raiseUndefined op).inte = s.inte := rfl
@[simp] theorem raiseUndefined_halted (op : Byte) : (s.raiseUndefined op).halted = s.halted := rfl
@[simp] theorem raiseUndefined_ab (op : Byte) : (s.raiseUndefined op).ab = s.ab := rfl
@[simp] theorem raiseUndefined_db (op : Byte) : (s.raiseUndefined op).db = s.db := rfl
@[simp] theorem raiseUndefined_ir (op : Byte) : (s.raiseUndefined op).ir = s.ir := rfl
@[simp] theorem raiseUndefined_faultMark (op : Byte) : (s.raiseUndefined op).faultMark = some { addr := s.pc - 1, opcode := op } := rfl
@[simp] theorem raiseUndefined_mem (op : Byte) : (s.raiseUndefined op).mem = s.mem := rfl
@[simp] theorem raiseUndefined_cfg (op : Byte) : (s.raiseUndefined op).cfg = s.cfg := rfl
@[simp] theorem raiseUndefined_io (op : Byte) : (s.raiseUndefined op).io = s.io := rfl

/-! ### aluApply -/

@[simp] theorem aluApply_a (op : AluOp) (v : Byte) : (s.aluApply op v).a = (if writesA op then (alu s.cfg op s.a v s.flags.cy).res else s.a) := rfl
@[simp] theorem aluApply_b (op : AluOp) (v : Byte) : (s.aluApply op v).b = s.b := rfl
@[simp] theorem aluApply_c (op : AluOp) (v : Byte) : (s.aluApply op v).c = s.c := rfl
@[simp] theorem aluApply_d (op : AluOp) (v : Byte) : (s.aluApply op v).d = s.d := rfl
@[simp] theorem aluApply_e (op : AluOp) (v : Byte) : (s.aluApply op v).e = s.e := rfl
@[simp] theorem aluApply_h (op : AluOp) (v : Byte) : (s.aluApply op v).h = s.h := rfl
@[simp] theorem aluApply_l (op : AluOp) (v : Byte) : (s.aluApply op v).l = s.l := rfl
@[simp] theorem aluApply_flags (op : AluOp) (v : Byte) : (s.aluApply op v).flags = (alu s.cfg op s.a v s.flags.cy).flags := rfl
@[simp] theorem aluApply_sp (op : AluOp) (v : Byte) : (s.aluApply op v).sp = s.sp := rfl
@[simp] theorem aluApply_pc (op : AluOp) (v : Byte) : (s.aluApply op v).pc = s.pc := rfl
@[simp] theorem aluApply_inte (op : AluOp) (v : Byte) : (s.aluApply op v).inte = s.inte := rfl
@[simp] theorem aluApply_halted (op : AluOp) (v : Byte) : (s.aluApply op v).halted = s.halted := rfl
@[simp] theorem aluApply_ab (op : AluOp) (v : Byte) : (s.aluApply op v).ab = s.ab := rfl
@[simp] theorem aluApply_db (op : AluOp) (v : Byte) : (s.aluApply op v).db = s.db := rfl
@[simp] theorem aluApply_ir (op : AluOp) (v : Byte) : (s.aluApply op v).ir = s.ir := rfl
@[simp] theorem aluApply_faultMark (op : AluOp) (v : Byte) : (s.aluApply op v).faultMark = s.faultMark := rfl
@[simp] theorem aluApply_mem (op : AluOp) (v : Byte) : (s.aluApply op v).mem = s.mem := rfl
@[simp] theorem aluApply_cfg (op : AluOp) (v : Byte) : (s.aluApply op v).cfg = s.cfg := rfl
@[simp] theorem aluApply_io (op : AluOp) (v : Byte) : (s.aluApply op v).io = s.io := rfl

end Sys2Proof.Machine
end

