-- ==== Sys2Proof/Laws/Fetch.lean ====
section
/-! SUPPORT. What the instruction fetch leaves, said once: the fetched state by format, and that it differs from the state before it in PC, IR, AB and DB alone. -/

namespace Sys2Proof.Machine

variable (s : State)

/-- A one-byte opcode's fetch. -/
theorem fetchInstr_of_op (f : Form) (h : decodeOpcode (s.byteAt s.pc) = .op f) :
    s.fetchInstr = (f.instr, s.fetchOpcode.2) := by
  simp only [State.fetchInstr, fetchOpcode_val, h]

/-- A two-byte opcode's fetch. -/
theorem fetchInstr_of_opD8 (f : Byte → Form) (h : decodeOpcode (s.byteAt s.pc) = .opD8 f) :
    s.fetchInstr = ((f s.fetchOpcode.2.fetch8.1).instr, s.fetchOpcode.2.fetch8.2) := by
  simp only [State.fetchInstr, fetchOpcode_val, h]

/-- A three-byte opcode's fetch. -/
theorem fetchInstr_of_opA16 (f : Word → Form) (h : decodeOpcode (s.byteAt s.pc) = .opA16 f) :
    s.fetchInstr = ((f s.fetchOpcode.2.fetch16.1).instr, s.fetchOpcode.2.fetch16.2) := by
  simp only [State.fetchInstr, fetchOpcode_val, h]

/-- The state after the opcode fetch (30_encoding.md R87). -/
theorem fetchOpcode_state :
    s.fetchOpcode.2 =
      { s with pc := s.pc + 1, ir := s.byteAt s.pc, ab := s.pc, db := s.byteAt s.pc } := rfl

/-- The state after one immediate byte. -/
theorem fetch8_state :
    s.fetch8.2 = { s with pc := s.pc + 1, ab := s.pc, db := s.byteAt s.pc } := rfl

/-- The state after two immediate bytes. -/
theorem fetch16_state :
    s.fetch16.2 = { s with pc := s.pc + 1 + 1, ab := s.pc + 1, db := s.byteAt (s.pc + 1) } := rfl

/-- The fetch changes PC, IR, AB and DB alone, and leaves the opcode in IR. -/
theorem fetchInstr_frame :
    ∃ p x v, s.fetchInstr.2 = { s with pc := p, ir := s.byteAt s.pc, ab := x, db := v } := by
  cases h : decodeOpcode (s.byteAt s.pc) with
  | op f => rw [fetchInstr_of_op s f h, fetchOpcode_state]; exact ⟨_, _, _, rfl⟩
  | opD8 f => rw [fetchInstr_of_opD8 s f h, fetch8_state, fetchOpcode_state]; exact ⟨_, _, _, rfl⟩
  | opA16 f => rw [fetchInstr_of_opA16 s f h, fetch16_state, fetchOpcode_state]; exact ⟨_, _, _, rfl⟩

/-- What a step of a running state is. -/
theorem step_of_running (h : s.faultMark = none) (h' : s.halted = false) :
    step s = exec s.fetchInstr.1 s.fetchInstr.2 := by
  simp [step, h, h']

end Sys2Proof.Machine
end

