-- ==== Sys2Proof/Laws/Form.lean ====
section
/-! SUPPORT. exec by rule: the shared operation that each Form runs, and the two round trips between rows and rules. -/

namespace Sys2Proof

open Machine

/-- What an undefined value is to an Intel 8080 (R253). -/
def UndefOp.intelRun : UndefOp → State → Result
  | .u08 | .u10 | .u18 | .u20 | .u28 | .u30 | .u38 => aliasNop
  | .uCB => aliasJmp
  | .uD9 => aliasRet
  | .uDD | .uED | .uFD => aliasCall

/-- The shared operation of a rule. -/
def Form.run : Form → State → Result
  | .movRR dst src => moveRegReg dst src
  | .movRM dst => loadReg dst
  | .movMR src => storeReg src
  | .mviR dst d8 => moveImm dst d8
  | .mviM d8 => storeImm d8
  | .lxi rp d16 => loadPairImm rp d16
  | .lda a16 => loadDirect a16
  | .sta a16 => storeDirect a16
  | .lhld a16 => loadHlDirect a16
  | .shld a16 => storeHlDirect a16
  | .ldax rp => loadIndexed rp
  | .stax rp => storeIndexed rp
  | .xchg => exchangeDeHl
  | .aluR op src => aluReg op src
  | .aluM op => aluMem op
  | .aluI op d8 => aluImm op d8
  | .inrR r => incReg r
  | .inrM => incMem
  | .dcrR r => decReg r
  | .dcrM => decMem
  | .inx rp => incPair rp
  | .dcx rp => decPair rp
  | .dad rp => addPair rp
  | .daa => decimalAdjust
  | .rlc => rotateLeft
  | .rrc => rotateRight
  | .ral => rotateLeftCarry
  | .rar => rotateRightCarry
  | .cma => complementA
  | .cmc => complementCarry
  | .stc => setCarry
  | .jmp a16 => jump a16
  | .jcc cond a16 => jumpIf cond a16
  | .pchl => jumpHl
  | .call a16 => callTo a16
  | .ccc cond a16 => callIf cond a16
  | .ret => returnTo
  | .rcc cond => returnIf cond
  | .rst n => restart n
  | .push rp => pushPair rp
  | .pushPsw => pushAf
  | .pop rp => popPair rp
  | .popPsw => popAf
  | .xthl => exchangeTop
  | .sphl => loadSpHl
  | .inPort port => portIn port
  | .outPort port => portOut port
  | .ei => enableInterrupts
  | .di => disableInterrupts
  | .hlt => halt
  | .nop => noOperation
  | .undef u => undefinedOpcode u.byte u.intelRun

/-- Every row runs the shared operation of its rule on its own operands. -/
theorem exec_eq_run (i : Instr) (s : State) : exec i s = i.form.run s := by
  cases i <;> rfl

/-- The row of a rule's instance has that rule and those operands. -/
@[simp] theorem Form.form_instr (f : Form) : f.instr.form = f := by
  cases f
  case movRR x y => cases x <;> cases y <;> rfl
  case aluR op r => cases op <;> cases r <;> rfl
  case rst n =>
    match n with
    | 0 | 1 | 2 | 3 | 4 | 5 | 6 | 7 => rfl
  all_goals first
    | rfl
    | next x => cases x <;> rfl
    | next x y => cases x <;> rfl

/-- A row is the row of its own rule. -/
@[simp] theorem Instr.instr_form (i : Instr) : i.form.instr = i := by
  cases i <;> rfl

/-- A rule's instance runs the rule's shared operation. -/
theorem exec_instr (f : Form) (s : State) : exec f.instr s = f.run s := by
  rw [exec_eq_run, Form.form_instr]

end Sys2Proof
end

