-- ==== Sys2Proof/Laws/Io.lean ====
section
/-! SUPPORT. The laws of the I/O history: what of it reaches the handlers, and that an access to an unmapped port is not seen by any handler, whatever comes after it (20_memory.md R71, R72). -/

namespace Sys2Proof.Machine

theorem bindings_append (xs ys : List IoEvent) : bindings (xs ++ ys) = bindings xs + bindings ys := by
  simp [bindings]

@[simp] theorem bindings_nil : bindings [] = 0 := rfl
@[simp] theorem bindings_input (port v : Byte) : bindings [.input port v] = 0 := rfl
@[simp] theorem bindings_output (port v : Byte) : bindings [.output port v] = 0 := rfl
@[simp] theorem bindings_bound : bindings [.bound] = 1 := rfl

/-- The history that reached the handlers, of two pieces one after the other. -/
theorem handlerHistory_append (xs ys : List IoEvent) :
    ∀ n, handlerHistory n (xs ++ ys) = handlerHistory n xs ++ handlerHistory (n + bindings xs) ys := by
  induction xs with
  | nil => exact fun _ => rfl
  | cons ev rest ih =>
    intro n
    have hb : bindings (ev :: rest) = bindings [ev] + bindings rest := bindings_append [ev] rest
    simp only [List.cons_append, handlerHistory, ih, hb, Nat.add_assoc]
    split <;> rfl

/-- One more event: the handlers see it exactly when it reaches one. -/
theorem handlerHistory_snoc (xs : List IoEvent) (ev : IoEvent) (n : Nat) :
    handlerHistory n (xs ++ [ev]) =
      handlerHistory n xs ++ (if reaches (n + bindings xs) ev then [ev] else []) := by
  simp only [handlerHistory_append, handlerHistory]

/-- An access that reaches no handler leaves no trace in what the handlers see, then or ever after. -/
theorem handlerHistory_drop (xs rest : List IoEvent) (ev : IoEvent) (h : reaches (bindings xs) ev = false) :
    handlerHistory 0 (xs ++ [ev] ++ rest) = handlerHistory 0 (xs ++ rest) := by
  have hb : bindings [ev] = 0 := by
    cases ev with
    | input port v => rfl
    | output port v => rfl
    | bound => simp [reaches] at h
  simp [handlerHistory_append, handlerHistory, h, hb]

end Sys2Proof.Machine
end

