-- ==== Sys2Proof/Laws/Memory.lean ====
section
/-! SUPPORT. The laws of the memory list: what a read answers after a write, and that every memory operation keeps the canonical form. -/

namespace Sys2Proof.Machine

/-- An address below every listed one reads as an unlisted byte. -/
theorem Memory.lookup_of_lt (m : Memory) (x : Nat) (h : ∀ c ∈ m, x < c.1) :
    Memory.lookup m x = Memory.unlisted := by
  induction m with
  | nil => rfl
  | cons c rest ih =>
    obtain ⟨k, w⟩ := c
    have hk : x < k := h (k, w) List.mem_cons_self
    have hne : ¬ k = x := by omega
    simp only [Memory.lookup, if_neg hne]
    exact ih fun c hc => h c (List.mem_cons_of_mem _ hc)

/-- The cells of a list after an insertion: the new one, or cells that were there. -/
theorem Memory.mem_insert (m : Memory) (x : Nat) (v : Byte) (c : Host.Cell)
    (hc : c ∈ Memory.insert m x v) : (c = (x, v) ∧ v ≠ Memory.unlisted) ∨ c ∈ m := by
  induction m with
  | nil =>
    simp only [Memory.insert] at hc
    split at hc
    · exact absurd hc List.not_mem_nil
    · next hv => exact .inl ⟨List.mem_singleton.mp hc, hv⟩
  | cons d rest ih =>
    obtain ⟨k, w⟩ := d
    simp only [Memory.insert] at hc
    split at hc
    · split at hc
      · exact .inr hc
      · next hv => exact (List.mem_cons.mp hc).imp (fun h => ⟨h, hv⟩) id
    · split at hc
      · split at hc
        · exact .inr (List.mem_cons_of_mem _ hc)
        · next hv => exact (List.mem_cons.mp hc).imp (fun h => ⟨h, hv⟩) (List.mem_cons_of_mem _)
      · rcases List.mem_cons.mp hc with h | h
        · exact .inr (h ▸ List.mem_cons_self)
        · exact (ih h).imp id (List.mem_cons_of_mem _)

/-- Insertion keeps the addresses strictly rising. -/
theorem Memory.insert_rising (m : Memory) (x : Nat) (v : Byte)
    (h : List.Pairwise (fun a b : Host.Cell => a.1 < b.1) m) :
    List.Pairwise (fun a b : Host.Cell => a.1 < b.1) (Memory.insert m x v) := by
  induction m with
  | nil => simp only [Memory.insert]; split <;> simp
  | cons d rest ih =>
    obtain ⟨k, w⟩ := d
    obtain ⟨hk, hr⟩ := List.pairwise_cons.mp h
    simp only [Memory.insert]
    split
    · next hlt =>
      split
      · exact h
      · refine List.pairwise_cons.mpr ⟨fun c hc => ?_, h⟩
        rcases List.mem_cons.mp hc with rfl | hc
        · exact hlt
        · exact Nat.lt_trans hlt (hk c hc)
    · split
      · next heq =>
        split
        · exact hr
        · exact List.pairwise_cons.mpr ⟨fun c hc => heq ▸ hk c hc, hr⟩
      · next hge hne =>
        refine List.pairwise_cons.mpr ⟨fun c hc => ?_, ih hr⟩
        rcases Memory.mem_insert rest x v c hc with ⟨rfl, -⟩ | hc
        · show k < x
          omega
        · exact hk c hc

/-- Insertion below 65536 keeps the canonical form. -/
theorem Memory.insert_wf (m : Memory) (x : Nat) (v : Byte) (hx : x < 65536) (h : Memory.wf m) :
    Memory.wf (Memory.insert m x v) := by
  refine ⟨Memory.insert_rising m x v h.1, fun c hc => ?_⟩
  rcases Memory.mem_insert m x v c hc with ⟨rfl, hv⟩ | hc
  · exact ⟨hx, hv⟩
  · exact h.2 c hc

/-- `write8` keeps the canonical form (R53). -/
theorem Memory.write8_wf (m : Memory) (x : Nat) (v : Byte) (h : Memory.wf m) :
    Memory.wf (Memory.write8 m x v) := by
  unfold Memory.write8
  split
  · next hx => exact Memory.insert_wf m x v hx h
  · exact h

/-- Placing bytes keeps the canonical form. -/
theorem placeBytes_wf (bytes : List Byte) :
    ∀ (m : Memory) (x : Word), Memory.wf m → Memory.wf (placeBytes m x bytes) := by
  induction bytes with
  | nil => exact fun _ _ h => h
  | cons v rest ih => exact fun m x h => ih _ _ (Memory.write8_wf m x.toNat v h)

/-- A look-up after an insertion into a rising list: the new byte at its address, the old ones elsewhere. -/
theorem Memory.lookup_insert (m : Memory) (x y : Nat) (v : Byte)
    (h : List.Pairwise (fun a b : Host.Cell => a.1 < b.1) m) :
    Memory.lookup (Memory.insert m x v) y = if y = x then v else Memory.lookup m y := by
  induction m with
  | nil =>
    by_cases hv : v = Memory.unlisted
    · simp [Memory.insert, Memory.lookup, hv]
    · simp [Memory.insert, Memory.lookup, hv, eq_comm]
  | cons d rest ih =>
    obtain ⟨k, w⟩ := d
    obtain ⟨hk, hr⟩ := List.pairwise_cons.mp h
    have hbelow : x ≤ k → Memory.lookup rest x = Memory.unlisted := fun hx =>
      Memory.lookup_of_lt rest x fun c hc => Nat.lt_of_le_of_lt hx (hk c hc)
    simp only [Memory.insert]
    by_cases hlt : x < k
    · have hkx : ¬ k = x := by omega
      by_cases hv : v = Memory.unlisted
      · by_cases hy : y = x
        · subst hy
          simp [hlt, hv, Memory.lookup, hkx, hbelow (Nat.le_of_lt hlt)]
        · simp [hlt, hv, hy]
      · by_cases hy : y = x
        · subst hy
          simp [hlt, hv, Memory.lookup]
        · simp [hlt, hv, hy, Memory.lookup, Ne.symm hy]
    · by_cases heq : x = k
      · subst heq
        by_cases hv : v = Memory.unlisted
        · by_cases hy : y = x
          · subst hy
            simp [hv, hbelow (Nat.le_refl _)]
          · simp [hv, hy, Memory.lookup, Ne.symm hy]
        · by_cases hy : y = x
          · subst hy
            simp [hv, Memory.lookup]
          · simp [hv, hy, Memory.lookup, Ne.symm hy]
      · simp only [if_neg hlt, if_neg heq, Memory.lookup]
        by_cases hky : k = y
        · subst hky
          simp [Ne.symm heq]
        · simp [hky, ih hr]

/-- An insertion at another address is not seen, in any list, canonical or not. -/
theorem Memory.lookup_insert_ne (m : Memory) (x y : Nat) (v : Byte) (h : y ≠ x) :
    Memory.lookup (Memory.insert m x v) y = Memory.lookup m y := by
  induction m with
  | nil => simp only [Memory.insert]; split <;> simp [Memory.lookup, Ne.symm h]
  | cons d rest ih =>
    obtain ⟨k, w⟩ := d
    simp only [Memory.insert]
    split
    · split <;> simp [Memory.lookup, Ne.symm h]
    · split
      · subst_vars; split <;> simp [Memory.lookup, Ne.symm h]
      · simp [Memory.lookup, ih]

/-- A byte read at another address than the one written, in any list. -/
theorem Memory.read8_write8_ne (m : Memory) (x y : Word) (v : Byte) (h : y ≠ x) :
    (m.write8 x.toNat v).read8 y.toNat = m.read8 y.toNat := by
  have hne : y.toNat ≠ x.toNat := fun e => h (BitVec.eq_of_toNat_eq e)
  simp [Memory.read8, Memory.write8, x.isLt, Memory.lookup_insert_ne _ _ _ _ hne]

/-- A byte read after a byte written, in a canonical memory (R52, R53). -/
theorem Memory.read8_write8 (m : Memory) (hm : m.wf) (x y : Word) (v : Byte) :
    (m.write8 x.toNat v).read8 y.toNat = if y = x then v else m.read8 y.toNat := by
  by_cases h : y = x
  · subst h
    simp [Memory.read8, Memory.write8, y.isLt, Memory.lookup_insert _ _ _ _ hm.1]
  · rw [if_neg h, Memory.read8_write8_ne m x y v h]

end Sys2Proof.Machine
end

