-- ==== Sys2Proof/Laws/Operands.lean ====
section
/-! SUPPORT. What each rule's shared operation answers, said once: it always takes a next state, Form.after, and one equation per rule gives that state. Proofs about instructions cite these equations and unfold no operation. -/

namespace Sys2Proof

open Machine

/-- The state that a rule's shared operation leaves. -/
def Form.after (f : Form) (s : State) : State :=
  match f.run s with
  | .next t => t
  | .fault _ => s
  | .refused _ => s

/-- The policy decides what an undefined value does: FAULT, or its Intel alias. -/
theorem Form.run_undef (u : UndefOp) (s : State) : (Form.undef u).run s =
      if s.cfg.undefPolicy = .fault then .next (s.raiseUndefined u.byte) else u.intelRun s := by
  simp only [Form.run, undefinedOpcode]
  cases s.cfg.undefPolicy <;> rfl

/-- Every shared operation takes a next state (60_exceptions.md R250). -/
theorem Form.run_eq_after (f : Form) (s : State) : f.run s = .next (f.after s) := by
  cases f
  case jcc cond _ => cases h : s.flags.holds cond <;> simp only [Form.after, Form.run, jumpIf, jump, h] <;> rfl
  case ccc cond _ => cases h : s.flags.holds cond <;> simp only [Form.after, Form.run, callIf, callTo, h] <;> rfl
  case rcc cond => cases h : s.flags.holds cond <;> simp only [Form.after, Form.run, returnIf, returnTo, h] <;> rfl
  case undef u =>
    by_cases h : s.cfg.undefPolicy = .fault
    · simp only [Form.after, Form.run_undef, if_pos h]
    · simp only [Form.after, Form.run_undef, if_neg h]
      cases u <;> rfl
  all_goals rfl

/-- A rule's instance takes the rule's next state. -/
theorem exec_eq_after (f : Form) (s : State) : exec f.instr s = .next (f.after s) := by
  rw [exec_instr, Form.run_eq_after]

variable (s : State)

@[simp] theorem Form.after_movRR (dst src : Reg) : (Form.movRR dst src).after s =
      s.setReg dst (s.getReg src) := rfl

@[simp] theorem Form.after_movRM (dst : Reg) : (Form.movRM dst).after s =
      (s.observe s.hl (s.byteAt s.hl)).setReg dst (s.byteAt s.hl) := rfl

@[simp] theorem Form.after_movMR (src : Reg) : (Form.movMR src).after s =
      s.memWrite1 s.hl (s.getReg src) := rfl

@[simp] theorem Form.after_mviR (dst : Reg) (d8 : Byte) : (Form.mviR dst d8).after s =
      s.setReg dst d8 := rfl

@[simp] theorem Form.after_mviM (d8 : Byte) : (Form.mviM d8).after s =
      s.memWrite1 s.hl d8 := rfl

@[simp] theorem Form.after_lxi (rp : Pair) (d16 : Word) : (Form.lxi rp d16).after s =
      s.setPair rp d16 := rfl

@[simp] theorem Form.after_lda (a16 : Word) : (Form.lda a16).after s =
      { s with a := s.byteAt a16, ab := a16, db := s.byteAt a16 } := rfl

@[simp] theorem Form.after_sta (a16 : Word) : (Form.sta a16).after s =
      { s with mem := s.mem.write8 a16.toNat s.a, ab := a16, db := s.a } := rfl

@[simp] theorem Form.after_lhld (a16 : Word) : (Form.lhld a16).after s =
      { s with l := s.byteAt a16, h := s.byteAt (a16 + 1), ab := a16 + 1, db := s.byteAt (a16 + 1) } := by
  show State.setHl _ (cat16 (s.byteAt (a16 + 1)) (s.byteAt a16)) = _
  simp only [State.setHl, hi8_cat16, lo8_cat16]; rfl

@[simp] theorem Form.after_shld (a16 : Word) : (Form.shld a16).after s =
      { s with mem := (s.mem.write8 a16.toNat s.l).write8 (a16 + 1).toNat s.h, ab := a16 + 1, db := s.h } := by
  show s.memWrite2 a16 (cat16 s.h s.l) = _
  simp only [State.memWrite2, hi8_cat16, lo8_cat16]; rfl

@[simp] theorem Form.after_ldax (rp : IndexPair) : (Form.ldax rp).after s =
      { s with a := s.byteAt (s.getIndexPair rp), ab := s.getIndexPair rp, db := s.byteAt (s.getIndexPair rp) } := rfl

@[simp] theorem Form.after_stax (rp : IndexPair) : (Form.stax rp).after s =
      { s with mem := s.mem.write8 (s.getIndexPair rp).toNat s.a, ab := s.getIndexPair rp, db := s.a } := rfl

@[simp] theorem Form.after_xchg : (Form.xchg).after s =
      { s with h := s.d, l := s.e, d := s.h, e := s.l } := rfl

@[simp] theorem Form.after_aluR (op : AluOp) (src : Reg) : (Form.aluR op src).after s =
      s.aluApply op (s.getReg src) := rfl

@[simp] theorem Form.after_aluM (op : AluOp) : (Form.aluM op).after s =
      (s.observe s.hl (s.byteAt s.hl)).aluApply op (s.byteAt s.hl) := rfl

@[simp] theorem Form.after_aluI (op : AluOp) (d8 : Byte) : (Form.aluI op d8).after s =
      s.aluApply op d8 := rfl

@[simp] theorem Form.after_inrR (r : Reg) : (Form.inrR r).after s =
      { s with flags := (inc8 (s.getReg r) s.flags.cy).flags }.setReg r (inc8 (s.getReg r) s.flags.cy).res := rfl

@[simp] theorem Form.after_inrM : (Form.inrM).after s =
      { s with flags := (inc8 (s.byteAt s.hl) s.flags.cy).flags }.memWrite1 s.hl (inc8 (s.byteAt s.hl) s.flags.cy).res := rfl

@[simp] theorem Form.after_dcrR (r : Reg) : (Form.dcrR r).after s =
      { s with flags := (dec8 s.cfg.acSubMode (s.getReg r) s.flags.cy).flags }.setReg r (dec8 s.cfg.acSubMode (s.getReg r) s.flags.cy).res := rfl

@[simp] theorem Form.after_dcrM : (Form.dcrM).after s =
      { s with flags := (dec8 s.cfg.acSubMode (s.byteAt s.hl) s.flags.cy).flags }.memWrite1 s.hl (dec8 s.cfg.acSubMode (s.byteAt s.hl) s.flags.cy).res := rfl

@[simp] theorem Form.after_inx (rp : Pair) : (Form.inx rp).after s =
      s.setPair rp (s.getPair rp + 1) := rfl

@[simp] theorem Form.after_dcx (rp : Pair) : (Form.dcx rp).after s =
      s.setPair rp (s.getPair rp - 1) := rfl

@[simp] theorem Form.after_dad (rp : Pair) : (Form.dad rp).after s =
      (s.setHl (add16 s.hl (s.getPair rp)).1).setCy (add16 s.hl (s.getPair rp)).2 := rfl

@[simp] theorem Form.after_daa : (Form.daa).after s =
      { s with a := (Machine.daa s.a s.flags.ac s.flags.cy).res, flags := (Machine.daa s.a s.flags.ac s.flags.cy).flags } := rfl

@[simp] theorem Form.after_rlc : (Form.rlc).after s =
      { s with a := (s.a <<< 1) ||| bitByte (s.a.getLsbD 7) }.setCy (s.a.getLsbD 7) := rfl

@[simp] theorem Form.after_rrc : (Form.rrc).after s =
      { s with a := (s.a >>> 1) ||| (bitByte (s.a.getLsbD 0) <<< 7) }.setCy (s.a.getLsbD 0) := rfl

@[simp] theorem Form.after_ral : (Form.ral).after s =
      { s with a := (s.a <<< 1) ||| bitByte s.flags.cy }.setCy (s.a.getLsbD 7) := rfl

@[simp] theorem Form.after_rar : (Form.rar).after s =
      { s with a := (s.a >>> 1) ||| (bitByte s.flags.cy <<< 7) }.setCy (s.a.getLsbD 0) := rfl

@[simp] theorem Form.after_cma : (Form.cma).after s =
      { s with a := ~~~s.a } := rfl

@[simp] theorem Form.after_cmc : (Form.cmc).after s =
      s.setCy (!s.flags.cy) := rfl

@[simp] theorem Form.after_stc : (Form.stc).after s =
      s.setCy true := rfl

@[simp] theorem Form.after_jmp (a16 : Word) : (Form.jmp a16).after s =
      { s with pc := a16 } := rfl

@[simp] theorem Form.after_jcc (cond : Cond) (a16 : Word) : (Form.jcc cond a16).after s =
      { s with pc := if s.flags.holds cond then a16 else s.pc } := by
  cases h : s.flags.holds cond <;> simp only [Form.after, Form.run, jumpIf, jump, h] <;> rfl

@[simp] theorem Form.after_pchl : (Form.pchl).after s =
      { s with pc := s.hl } := rfl

@[simp] theorem Form.after_call (a16 : Word) : (Form.call a16).after s =
      { s.push s.pc with pc := a16 } := rfl

@[simp] theorem Form.after_ccc (cond : Cond) (a16 : Word) : (Form.ccc cond a16).after s =
      if s.flags.holds cond then { s.push s.pc with pc := a16 } else s := by
  cases h : s.flags.holds cond <;> simp only [Form.after, Form.run, callIf, callTo, h] <;> rfl

@[simp] theorem Form.after_ret : (Form.ret).after s =
      { s with pc := cat16 (s.byteAt (s.sp + 1)) (s.byteAt s.sp), sp := s.sp + 2, ab := s.sp + 1, db := s.byteAt (s.sp + 1) } := rfl

@[simp] theorem Form.after_rcc (cond : Cond) : (Form.rcc cond).after s =
      if s.flags.holds cond then
      { s with pc := cat16 (s.byteAt (s.sp + 1)) (s.byteAt s.sp), sp := s.sp + 2, ab := s.sp + 1, db := s.byteAt (s.sp + 1) }
    else s := by
  cases h : s.flags.holds cond <;> simp only [Form.after, Form.run, returnIf, returnTo, h] <;> rfl

@[simp] theorem Form.after_rst (n : Fin 8) : (Form.rst n).after s =
      { s.push s.pc with pc := restartVector n } := rfl

@[simp] theorem Form.after_push (rp : StackPair) : (Form.push rp).after s =
      s.push (s.getStackPair rp) := rfl

@[simp] theorem Form.after_pushPsw : (Form.pushPsw).after s =
      s.push s.psw := rfl

@[simp] theorem Form.after_pop (rp : StackPair) : (Form.pop rp).after s =
      s.pop.2.setStackPair rp s.pop.1 := rfl

@[simp] theorem Form.after_popPsw : (Form.popPsw).after s =
      s.pop.2.setPsw s.pop.1 := rfl

@[simp] theorem Form.after_xthl : (Form.xthl).after s =
      { s with
      l := s.byteAt s.sp, h := s.byteAt (s.sp + 1)
      mem := (s.mem.write8 s.sp.toNat s.l).write8 (s.sp + 1).toNat s.h, ab := s.sp + 1, db := s.h } := by
  show State.setHl (State.memWrite2 _ s.sp (cat16 s.h s.l)) (cat16 (s.byteAt (s.sp + 1)) (s.byteAt s.sp)) = _
  simp only [State.setHl, State.memWrite2, hi8_cat16, lo8_cat16]; rfl

@[simp] theorem Form.after_sphl : (Form.sphl).after s =
      { s with sp := s.hl } := rfl

@[simp] theorem Form.after_inPort (port : Byte) : (Form.inPort port).after s =
      { s with a := s.portByte port, io := s.io ++ [.input port (s.portByte port)] } := rfl

@[simp] theorem Form.after_outPort (port : Byte) : (Form.outPort port).after s =
      s.ioWrite port s.a := rfl

@[simp] theorem Form.after_ei : (Form.ei).after s =
      { s with inte := true } := rfl

@[simp] theorem Form.after_di : (Form.di).after s =
      { s with inte := false } := rfl

@[simp] theorem Form.after_hlt : (Form.hlt).after s =
      { s with halted := true } := rfl

@[simp] theorem Form.after_nop : (Form.nop).after s =
      s := rfl

theorem Form.after_undef_fault (u : UndefOp) (h : s.cfg.undefPolicy = .fault) : (Form.undef u).after s = s.raiseUndefined u.byte := by
  simp only [Form.after, Form.run_undef, if_pos h]

/-- Under `intel_alias` an undefined value leaves what its alias leaves, fetched bytes included. -/
theorem Form.after_undef_intel (u : UndefOp) (h : s.cfg.undefPolicy = .intelAlias) : (Form.undef u).after s =
        match u with
      | .u08 | .u10 | .u18 | .u20 | .u28 | .u30 | .u38 => s
      | .uCB => { s.fetch16.2 with pc := s.fetch16.1 }
      | .uD9 => Form.ret.after s
      | .uDD | .uED | .uFD => { s.fetch16.2.push (s.pc + 2) with pc := s.fetch16.1 } := by
  have hne : ¬ s.cfg.undefPolicy = .fault := by rw [h]; decide
  simp only [Form.after, Form.run_undef, if_neg hne]
  cases u <;> first
    | rfl
    | simp only [UndefOp.intelRun, aliasCall, callTo, fetch16_pc, add_one_one]

/-- Everything a step that takes a next state can be: a halted state's step to itself, or the fetched
instruction's effect in the fetched state (70_reset_and_hazards.md R287, R288). -/
theorem step_next_cases (t : State) (h : step s = .next t) :
    (s.faultMark = none ∧ s.halted = true ∧ t = s) ∨
    (s.faultMark = none ∧ s.halted = false ∧ t = s.fetchInstr.1.form.after s.fetchInstr.2) := by
  unfold step at h
  split at h
  · cases h
  · next hf =>
    split at h
    · next hh => exact .inl ⟨hf, hh, (Host.Outcome.next.inj h).symm⟩
    · next hh =>
      rw [exec_eq_run, Form.run_eq_after] at h
      exact .inr ⟨hf, by simpa using hh, (Host.Outcome.next.inj h).symm⟩

end Sys2Proof
end

