-- ==== Sys2Proof/Tests/Slice0.lean ====
section
/-! SUPPORT. The model's own tests. Expected results come from spec/opcode_table.json (the bit patterns), from the worked examples and vectors of 95_test_vectors.md (W, V, X, P), and from the rules by hand. Then one witness for the hypotheses of each statement of Certificates/Slice0/Obligations.lean. -/

namespace Sys2Proof.Tests

open Sys2Proof Sys2Proof.Machine

/-- The reset state with bytes in memory from an address on, and PC there. -/
def boot (at16 : Word) (bytes : List Byte) : State :=
  { State.reset with mem := placeBytes [] at16 bytes, pc := at16 }

/-- More bytes in memory. -/
def withBytes (s : State) (at16 : Word) (bytes : List Byte) : State :=
  { s with mem := placeBytes s.mem at16 bytes }

/-- Flags S Z AC P CY as digits. -/
def szapc (s z ac p cy : Nat) : Flags :=
  { s := s == 1, z := z == 1, ac := ac == 1, p := p == 1, cy := cy == 1 }

/-- The state after one step. -/
def after (s : State) : Option State :=
  match step s with
  | .next t => some t
  | .fault _ => none
  | .refused _ => none

/-- Fields of the state after one step. -/
def see {α : Type} (s : State) (f : State → α) : Option α := (after s).map f

/-- PC, AB and DB. -/
def bus (t : State) : Word × Word × Byte := (t.pc, t.ab, t.db)

/-- Whether bytes decode to an instruction with nothing left over. -/
def decodesTo (bytes : List Byte) (i : Instr) : Bool :=
  match decode bytes with
  | .ok (j, []) => i == j
  | .ok (_, _ :: _) => false
  | .error _ => false

/-- The Intel values of all three parameters. -/
def intel : Config := { undefPolicy := .intelAlias, acSubMode := .intel, acAndMode := .intel }

/-! ### Well-formedness -/

theorem test_wellFormed_refuses_undefined :
    [Instr.undef08, .undef10, .undef18, .undef20, .undef28, .undef30, .undef38, .undefCB, .undefD9, .undefDD,
      .undefED, .undefFD].all (fun i => !i.wellFormed) = true := by decide

theorem test_wellFormed_accepts_documented :
    [Instr.nop, .lxiB 0xFFFF, .mviM 0xFF, .movMA, .hlt, .addM, .cpi 0, .call 0, .rst7, .popPsw, .inPort 0xFF].all
      (fun i => i.wellFormed) = true := by decide

/-! ### Decoding: every row of opcode_table.json, its opcode byte written from the bit pattern of the table -/

theorem test_decode_io_control :
    [([0b00000000], Instr.nop), ([0b01110110], Instr.hlt), ([0b11010011, 0x9A], Instr.outPort 0x9A),
      ([0b11011011, 0x9A], Instr.inPort 0x9A), ([0b11110011], Instr.di), ([0b11111011], Instr.ei)].all (fun x => decodesTo x.1 x.2) = true := by decide

theorem test_decode_pairs :
    [([0b00000001, 0x34, 0x12], Instr.lxiB 0x1234), ([0b00000011], Instr.inxB), ([0b00001001], Instr.dadB),
      ([0b00001011], Instr.dcxB), ([0b00010001, 0x34, 0x12], Instr.lxiD 0x1234), ([0b00010011], Instr.inxD),
      ([0b00011001], Instr.dadD), ([0b00011011], Instr.dcxD), ([0b00100001, 0x34, 0x12], Instr.lxiH 0x1234),
      ([0b00100011], Instr.inxH), ([0b00101001], Instr.dadH), ([0b00101011], Instr.dcxH),
      ([0b00110001, 0x34, 0x12], Instr.lxiSp 0x1234), ([0b00110011], Instr.inxSp), ([0b00111001], Instr.dadSp),
      ([0b00111011], Instr.dcxSp)].all (fun x => decodesTo x.1 x.2) = true := by decide

theorem test_decode_transfer :
    [([0b00000010], Instr.staxB), ([0b00001010], Instr.ldaxB), ([0b00010010], Instr.staxD),
      ([0b00011010], Instr.ldaxD), ([0b00100010, 0x34, 0x12], Instr.shld 0x1234),
      ([0b00101010, 0x34, 0x12], Instr.lhld 0x1234), ([0b00110010, 0x34, 0x12], Instr.sta 0x1234),
      ([0b00111010, 0x34, 0x12], Instr.lda 0x1234), ([0b11101011], Instr.xchg)].all (fun x => decodesTo x.1 x.2) = true := by decide

theorem test_decode_inr_dcr :
    [([0b00000100], Instr.inrB), ([0b00000101], Instr.dcrB), ([0b00001100], Instr.inrC),
      ([0b00001101], Instr.dcrC), ([0b00010100], Instr.inrD), ([0b00010101], Instr.dcrD),
      ([0b00011100], Instr.inrE), ([0b00011101], Instr.dcrE), ([0b00100100], Instr.inrH),
      ([0b00100101], Instr.dcrH), ([0b00101100], Instr.inrL), ([0b00101101], Instr.dcrL),
      ([0b00110100], Instr.inrM), ([0b00110101], Instr.dcrM), ([0b00111100], Instr.inrA),
      ([0b00111101], Instr.dcrA)].all (fun x => decodesTo x.1 x.2) = true := by decide

theorem test_decode_mvi :
    [([0b00000110, 0x9A], Instr.mviB 0x9A), ([0b00001110, 0x9A], Instr.mviC 0x9A),
      ([0b00010110, 0x9A], Instr.mviD 0x9A), ([0b00011110, 0x9A], Instr.mviE 0x9A),
      ([0b00100110, 0x9A], Instr.mviH 0x9A), ([0b00101110, 0x9A], Instr.mviL 0x9A),
      ([0b00110110, 0x9A], Instr.mviM 0x9A), ([0b00111110, 0x9A], Instr.mviA 0x9A)].all (fun x => decodesTo x.1 x.2) = true := by decide

theorem test_decode_accumulator :
    [([0b00000111], Instr.rlc), ([0b00001111], Instr.rrc), ([0b00010111], Instr.ral),
      ([0b00011111], Instr.rar), ([0b00100111], Instr.daa), ([0b00101111], Instr.cma),
      ([0b00110111], Instr.stc), ([0b00111111], Instr.cmc)].all (fun x => decodesTo x.1 x.2) = true := by decide

theorem test_decode_undef :
    [([0b00001000], Instr.undef08), ([0b00010000], Instr.undef10), ([0b00011000], Instr.undef18),
      ([0b00100000], Instr.undef20), ([0b00101000], Instr.undef28), ([0b00110000], Instr.undef30),
      ([0b00111000], Instr.undef38), ([0b11001011], Instr.undefCB), ([0b11011001], Instr.undefD9),
      ([0b11011101], Instr.undefDD), ([0b11101101], Instr.undefED), ([0b11111101], Instr.undefFD)].all (fun x => decodesTo x.1 x.2) = true := by decide

theorem test_decode_mov_to_b :
    [([0b01000000], Instr.movBB), ([0b01000001], Instr.movBC), ([0b01000010], Instr.movBD),
      ([0b01000011], Instr.movBE), ([0b01000100], Instr.movBH), ([0b01000101], Instr.movBL),
      ([0b01000110], Instr.movBM), ([0b01000111], Instr.movBA)].all (fun x => decodesTo x.1 x.2) = true := by decide

theorem test_decode_mov_to_c :
    [([0b01001000], Instr.movCB), ([0b01001001], Instr.movCC), ([0b01001010], Instr.movCD),
      ([0b01001011], Instr.movCE), ([0b01001100], Instr.movCH), ([0b01001101], Instr.movCL),
      ([0b01001110], Instr.movCM), ([0b01001111], Instr.movCA)].all (fun x => decodesTo x.1 x.2) = true := by decide

theorem test_decode_mov_to_d :
    [([0b01010000], Instr.movDB), ([0b01010001], Instr.movDC), ([0b01010010], Instr.movDD),
      ([0b01010011], Instr.movDE), ([0b01010100], Instr.movDH), ([0b01010101], Instr.movDL),
      ([0b01010110], Instr.movDM), ([0b01010111], Instr.movDA)].all (fun x => decodesTo x.1 x.2) = true := by decide

theorem test_decode_mov_to_e :
    [([0b01011000], Instr.movEB), ([0b01011001], Instr.movEC), ([0b01011010], Instr.movED),
      ([0b01011011], Instr.movEE), ([0b01011100], Instr.movEH), ([0b01011101], Instr.movEL),
      ([0b01011110], Instr.movEM), ([0b01011111], Instr.movEA)].all (fun x => decodesTo x.1 x.2) = true := by decide

theorem test_decode_mov_to_h :
    [([0b01100000], Instr.movHB), ([0b01100001], Instr.movHC), ([0b01100010], Instr.movHD),
      ([0b01100011], Instr.movHE), ([0b01100100], Instr.movHH), ([0b01100101], Instr.movHL),
      ([0b01100110], Instr.movHM), ([0b01100111], Instr.movHA)].all (fun x => decodesTo x.1 x.2) = true := by decide

theorem test_decode_mov_to_l :
    [([0b01101000], Instr.movLB), ([0b01101001], Instr.movLC), ([0b01101010], Instr.movLD),
      ([0b01101011], Instr.movLE), ([0b01101100], Instr.movLH), ([0b01101101], Instr.movLL),
      ([0b01101110], Instr.movLM), ([0b01101111], Instr.movLA)].all (fun x => decodesTo x.1 x.2) = true := by decide

theorem test_decode_mov_to_m :
    [([0b01110000], Instr.movMB), ([0b01110001], Instr.movMC), ([0b01110010], Instr.movMD),
      ([0b01110011], Instr.movME), ([0b01110100], Instr.movMH), ([0b01110101], Instr.movML),
      ([0b01110111], Instr.movMA)].all (fun x => decodesTo x.1 x.2) = true := by decide

theorem test_decode_mov_to_a :
    [([0b01111000], Instr.movAB), ([0b01111001], Instr.movAC), ([0b01111010], Instr.movAD),
      ([0b01111011], Instr.movAE), ([0b01111100], Instr.movAH), ([0b01111101], Instr.movAL),
      ([0b01111110], Instr.movAM), ([0b01111111], Instr.movAA)].all (fun x => decodesTo x.1 x.2) = true := by decide

theorem test_decode_alu_add :
    [([0b10000000], Instr.addB), ([0b10000001], Instr.addC), ([0b10000010], Instr.addD),
      ([0b10000011], Instr.addE), ([0b10000100], Instr.addH), ([0b10000101], Instr.addL),
      ([0b10000110], Instr.addM), ([0b10000111], Instr.addA)].all (fun x => decodesTo x.1 x.2) = true := by decide

theorem test_decode_alu_adc :
    [([0b10001000], Instr.adcB), ([0b10001001], Instr.adcC), ([0b10001010], Instr.adcD),
      ([0b10001011], Instr.adcE), ([0b10001100], Instr.adcH), ([0b10001101], Instr.adcL),
      ([0b10001110], Instr.adcM), ([0b10001111], Instr.adcA)].all (fun x => decodesTo x.1 x.2) = true := by decide

theorem test_decode_alu_sub :
    [([0b10010000], Instr.subB), ([0b10010001], Instr.subC), ([0b10010010], Instr.subD),
      ([0b10010011], Instr.subE), ([0b10010100], Instr.subH), ([0b10010101], Instr.subL),
      ([0b10010110], Instr.subM), ([0b10010111], Instr.subA)].all (fun x => decodesTo x.1 x.2) = true := by decide

theorem test_decode_alu_sbb :
    [([0b10011000], Instr.sbbB), ([0b10011001], Instr.sbbC), ([0b10011010], Instr.sbbD),
      ([0b10011011], Instr.sbbE), ([0b10011100], Instr.sbbH), ([0b10011101], Instr.sbbL),
      ([0b10011110], Instr.sbbM), ([0b10011111], Instr.sbbA)].all (fun x => decodesTo x.1 x.2) = true := by decide

theorem test_decode_alu_ana :
    [([0b10100000], Instr.anaB), ([0b10100001], Instr.anaC), ([0b10100010], Instr.anaD),
      ([0b10100011], Instr.anaE), ([0b10100100], Instr.anaH), ([0b10100101], Instr.anaL),
      ([0b10100110], Instr.anaM), ([0b10100111], Instr.anaA)].all (fun x => decodesTo x.1 x.2) = true := by decide

theorem test_decode_alu_xra :
    [([0b10101000], Instr.xraB), ([0b10101001], Instr.xraC), ([0b10101010], Instr.xraD),
      ([0b10101011], Instr.xraE), ([0b10101100], Instr.xraH), ([0b10101101], Instr.xraL),
      ([0b10101110], Instr.xraM), ([0b10101111], Instr.xraA)].all (fun x => decodesTo x.1 x.2) = true := by decide

theorem test_decode_alu_ora :
    [([0b10110000], Instr.oraB), ([0b10110001], Instr.oraC), ([0b10110010], Instr.oraD),
      ([0b10110011], Instr.oraE), ([0b10110100], Instr.oraH), ([0b10110101], Instr.oraL),
      ([0b10110110], Instr.oraM), ([0b10110111], Instr.oraA)].all (fun x => decodesTo x.1 x.2) = true := by decide

theorem test_decode_alu_cmp :
    [([0b10111000], Instr.cmpB), ([0b10111001], Instr.cmpC), ([0b10111010], Instr.cmpD),
      ([0b10111011], Instr.cmpE), ([0b10111100], Instr.cmpH), ([0b10111101], Instr.cmpL),
      ([0b10111110], Instr.cmpM), ([0b10111111], Instr.cmpA)].all (fun x => decodesTo x.1 x.2) = true := by decide

theorem test_decode_return :
    [([0b11000000], Instr.rnz), ([0b11000111], Instr.rst0), ([0b11001000], Instr.rz),
      ([0b11001001], Instr.ret), ([0b11001111], Instr.rst1), ([0b11010000], Instr.rnc),
      ([0b11010111], Instr.rst2), ([0b11011000], Instr.rc), ([0b11011111], Instr.rst3),
      ([0b11100000], Instr.rpo), ([0b11100111], Instr.rst4), ([0b11101000], Instr.rpe),
      ([0b11101111], Instr.rst5), ([0b11110000], Instr.rp), ([0b11110111], Instr.rst6),
      ([0b11111000], Instr.rm), ([0b11111111], Instr.rst7)].all (fun x => decodesTo x.1 x.2) = true := by decide

theorem test_decode_stack :
    [([0b11000001], Instr.popB), ([0b11000101], Instr.pushB), ([0b11010001], Instr.popD),
      ([0b11010101], Instr.pushD), ([0b11100001], Instr.popH), ([0b11100011], Instr.xthl),
      ([0b11100101], Instr.pushH), ([0b11110001], Instr.popPsw), ([0b11110101], Instr.pushPsw),
      ([0b11111001], Instr.sphl)].all (fun x => decodesTo x.1 x.2) = true := by decide

theorem test_decode_jump :
    [([0b11000010, 0x34, 0x12], Instr.jnz 0x1234), ([0b11000011, 0x34, 0x12], Instr.jmp 0x1234),
      ([0b11001010, 0x34, 0x12], Instr.jz 0x1234), ([0b11010010, 0x34, 0x12], Instr.jnc 0x1234),
      ([0b11011010, 0x34, 0x12], Instr.jc 0x1234), ([0b11100010, 0x34, 0x12], Instr.jpo 0x1234),
      ([0b11101001], Instr.pchl), ([0b11101010, 0x34, 0x12], Instr.jpe 0x1234),
      ([0b11110010, 0x34, 0x12], Instr.jp 0x1234), ([0b11111010, 0x34, 0x12], Instr.jm 0x1234)].all (fun x => decodesTo x.1 x.2) = true := by decide

theorem test_decode_call :
    [([0b11000100, 0x34, 0x12], Instr.cnz 0x1234), ([0b11001100, 0x34, 0x12], Instr.cz 0x1234),
      ([0b11001101, 0x34, 0x12], Instr.call 0x1234), ([0b11010100, 0x34, 0x12], Instr.cnc 0x1234),
      ([0b11011100, 0x34, 0x12], Instr.cc 0x1234), ([0b11100100, 0x34, 0x12], Instr.cpo 0x1234),
      ([0b11101100, 0x34, 0x12], Instr.cpe 0x1234), ([0b11110100, 0x34, 0x12], Instr.cp 0x1234),
      ([0b11111100, 0x34, 0x12], Instr.cm 0x1234)].all (fun x => decodesTo x.1 x.2) = true := by decide

theorem test_decode_alu_immediate :
    [([0b11000110, 0x9A], Instr.adi 0x9A), ([0b11001110, 0x9A], Instr.aci 0x9A),
      ([0b11010110, 0x9A], Instr.sui 0x9A), ([0b11011110, 0x9A], Instr.sbi 0x9A),
      ([0b11100110, 0x9A], Instr.ani 0x9A), ([0b11101110, 0x9A], Instr.xri 0x9A),
      ([0b11110110, 0x9A], Instr.ori 0x9A), ([0b11111110, 0x9A], Instr.cpi 0x9A)].all (fun x => decodesTo x.1 x.2) = true := by decide

/-- A list that ends inside an instruction is refused by name (R80, R81). -/
theorem test_decode_truncated :
    (decode [] = .error .empty ∧ (∃ e, decode [0b00111110] = .error e)) ∧
      (∃ e, decode [0b11000011, 0x34] = .error e) := ⟨⟨rfl, _, rfl⟩, _, rfl⟩

/-- The opcode table's numbering: byte 1 stands in bits 15..8, byte 2 in bits 23..16. -/
theorem test_decodeTableWord :
    decodeTableWord 24 0x1234C3 = some (.jmp 0x1234) ∧ decodeTableWord 8 0x3E = some (.mviA 0) ∧
      decodeTableWord 16 0x5A36 = some (.mviM 0x5A) := by decide

/-- A placed word is what the next step runs. -/
theorem test_withFetchWord :
    (see (State.reset.withFetchWord 16 0x423E) fun t => (t.a, t.pc)) = some (0x42, 0x0002) ∧
      (see (State.reset.withFetchWord 8 0x76) fun t => t.halted) = some true := by decide

/-! ### Registers, flags, memory (W1, W2, W8) -/

theorem test_psw_fixed_bits :
    (State.reset.setPsw 0x3CFF).psw = 0x3CD7 ∧ (State.reset.setPair .de 0x00FF).e = 0xFF ∧
      (State.reset.setPair .hl 0xFF00).h = 0xFF := by decide

theorem test_parity_spots :
    parity 0x00 = true ∧ parity 0x01 = false ∧ parity 0x03 = true ∧ parity 0x7F = false ∧ parity 0xFF = true := by
  decide

theorem test_word_read_wraps :
    ((withBytes State.reset 0xFFFF [0x34, 0x12]).memRead2 0xFFFF).1 = 0x1234 := by decide

theorem test_out_of_range :
    Memory.read8 [(0, 0x55)] 65536 = 0 ∧ Memory.write8 [(0, 0x55)] 65536 0x11 = [(0, 0x55)] := by decide

theorem test_write_of_unlisted_byte_removes_entry :
    Memory.write8 [(3, 0x11), (7, 0x22)] 7 0x00 = [(3, 0x11)] ∧
      Memory.write8 [(3, 0x11), (7, 0x22)] 5 0x33 = [(3, 0x11), (5, 0x33), (7, 0x22)] := by decide

/-! ### Data transfer (V6) -/

theorem test_mov_a_a :
    (see { boot 0 [0x7F] with a := 0x42 } fun t => (t.a, t.flags.toByte, bus t)) =
      some (0x42, 0x02, 0x0001, 0x0000, 0x7F) := by decide

theorem test_mov_b_c :
    (see { boot 0 [0x41] with b := 0x11, c := 0x22 } fun t => (t.b, t.c)) = some (0x22, 0x22) := by decide

theorem test_mov_m_a :
    (see { boot 0 [0x77] with a := 0x99, h := 0xFF, l := 0xFF } fun t => (t.byteAt 0xFFFF, bus t)) =
      some (0x99, 0x0001, 0xFFFF, 0x99) := by decide

theorem test_mov_h_m :
    (see { withBytes (boot 0 [0x66]) 0x1234 [0x56] with h := 0x12, l := 0x34 } fun t => (t.hl, bus t)) =
      some (0x5634, 0x0001, 0x1234, 0x56) := by decide

theorem test_mov_l_m :
    (see { withBytes (boot 0 [0x6E]) 0x1234 [0x56] with h := 0x12, l := 0x34 } fun t => t.hl) = some 0x1256 := by
  decide

theorem test_mvi_m_overwrites_opcode :
    (see (boot 0 [0x36, 0x5A]) fun t => (t.byteAt 0x0000, bus t)) = some (0x5A, 0x0002, 0x0000, 0x5A) := by decide

theorem test_lxi_sp_code_wraps :
    (see (boot 0xFFFE [0x31, 0x34, 0x12]) fun t => (t.sp, bus t)) = some (0x1234, 0x0001, 0x0000, 0x12) := by decide

theorem test_lda :
    (see (withBytes (boot 0 [0x3A, 0xFF, 0xFF]) 0xFFFF [0x77]) fun t => (t.a, bus t)) =
      some (0x77, 0x0003, 0xFFFF, 0x77) := by decide

theorem test_sta :
    (see { boot 0 [0x32, 0x00, 0x80] with a := 0xA5 } fun t => (t.byteAt 0x8000, bus t)) =
      some (0xA5, 0x0003, 0x8000, 0xA5) := by decide

theorem test_lhld_wraps :
    (see (withBytes (boot 0x0100 [0x2A, 0xFF, 0xFF]) 0xFFFF [0x34, 0x12]) fun t => (t.hl, bus t)) =
      some (0x1234, 0x0103, 0x0000, 0x12) := by decide

theorem test_shld_wraps :
    (see { boot 0x0100 [0x22, 0xFF, 0xFF] with h := 0xBE, l := 0xEF } fun t =>
      (t.byteAt 0xFFFF, t.byteAt 0x0000, bus t)) = some (0xEF, 0xBE, 0x0103, 0x0000, 0xBE) := by decide

theorem test_ldax_d_reads_its_opcode :
    (see (boot 0 [0x1A]) fun t => (t.a, bus t)) = some (0x1A, 0x0001, 0x0000, 0x1A) := by decide

theorem test_stax_b :
    (see { boot 0 [0x02] with a := 0x11, b := 0x20 } fun t => (t.byteAt 0x2000, bus t)) =
      some (0x11, 0x0001, 0x2000, 0x11) := by decide

theorem test_xchg :
    (see { boot 0 [0xEB] with d := 0x12, e := 0x34, h := 0x56, l := 0x78, flags := szapc 1 0 0 0 1 } fun t =>
      (t.de, t.hl, t.flags.toByte)) = some (0x5678, 0x1234, 0x83) := by decide

/-! ### Arithmetic and logic (W3, W4, V1 to V5) -/

theorem test_add_b_1 :
    (see { boot 0 [0x80] with a := 0xFF, b := 0x01, flags := szapc 0 0 0 0 0 } fun t =>
      (t.a, t.b, t.flags.toByte)) = some (0x00, 0x01, 0x57) ∧
    (see { boot 0 [0x80] with a := 0xFF, b := 0x01, flags := szapc 0 0 0 0 0, cfg := intel } fun t =>
      (t.a, t.flags.toByte)) = some (0x00, 0x57) := by decide

theorem test_add_b_2 :
    (see { boot 0 [0x80] with a := 0x3A, b := 0x0C, flags := szapc 0 0 0 0 1 } fun t =>
      (t.a, t.b, t.flags.toByte)) = some (0x46, 0x0C, 0x12) ∧
    (see { boot 0 [0x80] with a := 0x3A, b := 0x0C, flags := szapc 0 0 0 0 1, cfg := intel } fun t =>
      (t.a, t.flags.toByte)) = some (0x46, 0x12) := by decide

theorem test_adc_b_1 :
    (see { boot 0 [0x88] with a := 0x0F, b := 0x01, flags := szapc 0 0 0 0 1 } fun t =>
      (t.a, t.b, t.flags.toByte)) = some (0x11, 0x01, 0x16) ∧
    (see { boot 0 [0x88] with a := 0x0F, b := 0x01, flags := szapc 0 0 0 0 1, cfg := intel } fun t =>
      (t.a, t.flags.toByte)) = some (0x11, 0x16) := by decide

theorem test_adc_b_2 :
    (see { boot 0 [0x88] with a := 0x00, b := 0x00, flags := szapc 0 0 0 0 1 } fun t =>
      (t.a, t.b, t.flags.toByte)) = some (0x01, 0x00, 0x02) ∧
    (see { boot 0 [0x88] with a := 0x00, b := 0x00, flags := szapc 0 0 0 0 1, cfg := intel } fun t =>
      (t.a, t.flags.toByte)) = some (0x01, 0x02) := by decide

theorem test_sub_b_1 :
    (see { boot 0 [0x90] with a := 0x05, b := 0x07, flags := szapc 0 0 0 0 0 } fun t =>
      (t.a, t.b, t.flags.toByte)) = some (0xFE, 0x07, 0x93) ∧
    (see { boot 0 [0x90] with a := 0x05, b := 0x07, flags := szapc 0 0 0 0 0, cfg := intel } fun t =>
      (t.a, t.flags.toByte)) = some (0xFE, 0x83) := by decide

theorem test_sub_b_2 :
    (see { boot 0 [0x90] with a := 0x10, b := 0x01, flags := szapc 0 0 0 0 0 } fun t =>
      (t.a, t.b, t.flags.toByte)) = some (0x0F, 0x01, 0x16) ∧
    (see { boot 0 [0x90] with a := 0x10, b := 0x01, flags := szapc 0 0 0 0 0, cfg := intel } fun t =>
      (t.a, t.flags.toByte)) = some (0x0F, 0x06) := by decide

theorem test_sbb_b_1 :
    (see { boot 0 [0x98] with a := 0x00, b := 0x00, flags := szapc 0 0 0 0 1 } fun t =>
      (t.a, t.b, t.flags.toByte)) = some (0xFF, 0x00, 0x97) ∧
    (see { boot 0 [0x98] with a := 0x00, b := 0x00, flags := szapc 0 0 0 0 1, cfg := intel } fun t =>
      (t.a, t.flags.toByte)) = some (0xFF, 0x87) := by decide

theorem test_sbb_b_2 :
    (see { boot 0 [0x98] with a := 0x04, b := 0x02, flags := szapc 0 0 0 0 1 } fun t =>
      (t.a, t.b, t.flags.toByte)) = some (0x01, 0x02, 0x02) ∧
    (see { boot 0 [0x98] with a := 0x04, b := 0x02, flags := szapc 0 0 0 0 1, cfg := intel } fun t =>
      (t.a, t.flags.toByte)) = some (0x01, 0x12) := by decide

theorem test_ana_b_1 :
    (see { boot 0 [0xA0] with a := 0xF0, b := 0x3C, flags := szapc 0 0 0 0 0 } fun t =>
      (t.a, t.b, t.flags.toByte)) = some (0x30, 0x3C, 0x06) ∧
    (see { boot 0 [0xA0] with a := 0xF0, b := 0x3C, flags := szapc 0 0 0 0 0, cfg := intel } fun t =>
      (t.a, t.flags.toByte)) = some (0x30, 0x16) := by decide

theorem test_ana_b_2 :
    (see { boot 0 [0xA0] with a := 0x80, b := 0x7F, flags := szapc 0 0 0 0 0 } fun t =>
      (t.a, t.b, t.flags.toByte)) = some (0x00, 0x7F, 0x46) ∧
    (see { boot 0 [0xA0] with a := 0x80, b := 0x7F, flags := szapc 0 0 0 0 0, cfg := intel } fun t =>
      (t.a, t.flags.toByte)) = some (0x00, 0x56) := by decide

theorem test_xra_b_1 :
    (see { boot 0 [0xA8] with a := 0xF0, b := 0x3C, flags := szapc 0 0 0 0 0 } fun t =>
      (t.a, t.b, t.flags.toByte)) = some (0xCC, 0x3C, 0x86) ∧
    (see { boot 0 [0xA8] with a := 0xF0, b := 0x3C, flags := szapc 0 0 0 0 0, cfg := intel } fun t =>
      (t.a, t.flags.toByte)) = some (0xCC, 0x86) := by decide

theorem test_xra_b_2 :
    (see { boot 0 [0xA8] with a := 0x0F, b := 0x01, flags := szapc 0 0 0 0 1 } fun t =>
      (t.a, t.b, t.flags.toByte)) = some (0x0E, 0x01, 0x02) ∧
    (see { boot 0 [0xA8] with a := 0x0F, b := 0x01, flags := szapc 0 0 0 0 1, cfg := intel } fun t =>
      (t.a, t.flags.toByte)) = some (0x0E, 0x02) := by decide

theorem test_ora_b_1 :
    (see { boot 0 [0xB0] with a := 0x10, b := 0x01, flags := szapc 0 0 0 0 0 } fun t =>
      (t.a, t.b, t.flags.toByte)) = some (0x11, 0x01, 0x06) ∧
    (see { boot 0 [0xB0] with a := 0x10, b := 0x01, flags := szapc 0 0 0 0 0, cfg := intel } fun t =>
      (t.a, t.flags.toByte)) = some (0x11, 0x06) := by decide

theorem test_ora_b_2 :
    (see { boot 0 [0xB0] with a := 0x0F, b := 0x01, flags := szapc 0 0 0 0 1 } fun t =>
      (t.a, t.b, t.flags.toByte)) = some (0x0F, 0x01, 0x06) ∧
    (see { boot 0 [0xB0] with a := 0x0F, b := 0x01, flags := szapc 0 0 0 0 1, cfg := intel } fun t =>
      (t.a, t.flags.toByte)) = some (0x0F, 0x06) := by decide

theorem test_cmp_b_1 :
    (see { boot 0 [0xB8] with a := 0x05, b := 0x07, flags := szapc 0 0 0 0 0 } fun t =>
      (t.a, t.b, t.flags.toByte)) = some (0x05, 0x07, 0x93) ∧
    (see { boot 0 [0xB8] with a := 0x05, b := 0x07, flags := szapc 0 0 0 0 0, cfg := intel } fun t =>
      (t.a, t.flags.toByte)) = some (0x05, 0x83) := by decide

theorem test_cmp_b_2 :
    (see { boot 0 [0xB8] with a := 0xF0, b := 0x3C, flags := szapc 0 0 0 0 0 } fun t =>
      (t.a, t.b, t.flags.toByte)) = some (0xF0, 0x3C, 0x96) ∧
    (see { boot 0 [0xB8] with a := 0xF0, b := 0x3C, flags := szapc 0 0 0 0 0, cfg := intel } fun t =>
      (t.a, t.flags.toByte)) = some (0xF0, 0x86) := by decide

/-- The M and immediate forms give the register form's values (V1), with their own fetches. -/
theorem test_add_m :
    (see { withBytes (boot 0 [0x86]) 0x2000 [0x01] with a := 0xFF, h := 0x20 } fun t =>
      (t.a, t.flags.toByte, bus t)) = some (0x00, 0x57, 0x0001, 0x2000, 0x01) := by decide

theorem test_sbi :
    (see { boot 0 [0xDE, 0x07] with a := 0x05 } fun t => (t.a, t.flags.toByte, bus t)) =
      some (0xFE, 0x93, 0x0002, 0x0001, 0x07) := by decide

theorem test_inr_keeps_carry :
    (see { boot 0 [0x04] with b := 0xFF, flags := szapc 0 0 0 0 1 } fun t => (t.b, t.flags.toByte)) =
      some (0x00, 0x57) := by decide

theorem test_inr_m :
    (see { withBytes (boot 0 [0x34]) 0x2000 [0x0F] with h := 0x20 } fun t =>
      (t.byteAt 0x2000, t.flags.toByte, bus t)) = some (0x10, 0x12, 0x0001, 0x2000, 0x10) := by decide

theorem test_dcr :
    (see { boot 0 [0x05] with b := 0x00, flags := szapc 0 0 0 0 1 } fun t => (t.b, t.flags.toByte)) =
      some (0xFF, 0x97) ∧
    (see { boot 0 [0x05] with b := 0x01, cfg := intel } fun t => (t.b, t.flags.toByte)) = some (0x00, 0x56) := by
  decide

theorem test_dcr_m :
    (see { withBytes (boot 0 [0x35]) 0x2000 [0x80] with h := 0x20 } fun t =>
      (t.byteAt 0x2000, t.flags.toByte)) = some (0x7F, 0x12) := by decide

theorem test_inx :
    (see { boot 0 [0x03] with b := 0xFF, c := 0xFF, flags := szapc 1 1 1 1 0 } fun t => (t.bc, t.flags)) =
      some (0x0000, szapc 1 1 1 1 0) ∧
    (see { boot 0 [0x33] with sp := 0x00FF } fun t => t.sp) = some 0x0100 := by decide

theorem test_dcx :
    (see { boot 0 [0x1B] with flags := szapc 1 1 1 1 0 } fun t => (t.de, t.flags)) =
      some (0xFFFF, szapc 1 1 1 1 0) ∧
    (see { boot 0 [0x2B] with h := 0x01 } fun t => t.hl) = some 0x00FF := by decide

theorem test_dad :
    (see { boot 0 [0x09] with b := 0x80, h := 0x80, flags := szapc 1 1 1 1 0 } fun t => (t.hl, t.flags)) =
      some (0x0000, szapc 1 1 1 1 1) ∧
    (see { boot 0 [0x39] with sp := 0x7FFF, l := 0x01, flags := szapc 1 1 1 1 1 } fun t => (t.hl, t.flags)) =
      some (0x8000, szapc 1 1 1 1 0) := by decide

theorem test_daa :
    (see { boot 0 [0x27] with a := 0x9B } fun t => (t.a, t.flags.toByte)) = some (0x01, 0x13) ∧
    (see { boot 0 [0x27] with a := 0x99, flags := szapc 0 0 1 0 1 } fun t => (t.a, t.flags.toByte)) =
      some (0xFF, 0x87) := by decide

theorem test_daa_high_only :
    (see { boot 0 [0x27] with a := 0x15, flags := szapc 0 0 0 0 1 } fun t => (t.a, t.flags.toByte)) =
      some (0x75, 0x03) := by decide

theorem test_rlc :
    (see { boot 0 [0x07] with a := 0x80, flags := szapc 1 0 1 0 0 } fun t => (t.a, t.flags)) =
      some (0x01, szapc 1 0 1 0 1) := by decide

theorem test_rrc :
    (see { boot 0 [0x0F] with a := 0x01, flags := szapc 1 0 1 0 0 } fun t => (t.a, t.flags)) =
      some (0x80, szapc 1 0 1 0 1) := by decide

theorem test_ral :
    (see { boot 0 [0x17] with a := 0x80, flags := szapc 1 0 1 0 0 } fun t => (t.a, t.flags)) =
      some (0x00, szapc 1 0 1 0 1) := by decide

theorem test_rar :
    (see { boot 0 [0x1F] with a := 0x00, flags := szapc 1 0 1 0 1 } fun t => (t.a, t.flags)) =
      some (0x80, szapc 1 0 1 0 0) := by decide

theorem test_cma_stc_cmc :
    (see { boot 0 [0x2F] with a := 0x83, flags := szapc 1 0 1 0 0 } fun t => (t.a, t.flags)) =
      some (0x7C, szapc 1 0 1 0 0) ∧
    (see { boot 0 [0x37] with flags := szapc 1 0 1 0 0 } fun t => t.flags) = some (szapc 1 0 1 0 1) ∧
    (see { boot 0 [0x3F] with flags := szapc 1 0 1 0 1 } fun t => t.flags) = some (szapc 1 0 1 0 0) := by decide

/-! ### Branch, call, return, restart (V7, V8) -/

/-- The row of V7 for one set of flags: which of JNZ, JZ, JNC, JC, JPO, JPE, JP, JM are taken. -/
def jumpRow (f : Flags) : List (Option Word) :=
  [0xC2, 0xCA, 0xD2, 0xDA, 0xE2, 0xEA, 0xF2, 0xFA].map fun op =>
    see { boot 0x0100 [op, 0x00, 0x20] with flags := f } fun t => t.pc

theorem test_jump_row_none :
    jumpRow (szapc 0 0 0 0 0) = [0x2000, 0x0103, 0x2000, 0x0103, 0x2000, 0x0103, 0x2000, 0x0103].map some := by decide

theorem test_jump_row_all :
    jumpRow (szapc 1 1 1 1 1) = [0x0103, 0x2000, 0x0103, 0x2000, 0x0103, 0x2000, 0x0103, 0x2000].map some := by decide

theorem test_jump_row_sign :
    jumpRow (szapc 1 0 0 0 0) = [0x2000, 0x0103, 0x2000, 0x0103, 0x2000, 0x0103, 0x0103, 0x2000].map some := by decide

theorem test_jump_row_parity :
    jumpRow (szapc 0 0 0 1 0) = [0x2000, 0x0103, 0x2000, 0x0103, 0x0103, 0x2000, 0x2000, 0x0103].map some := by decide

theorem test_jmp :
    (see (boot 0x0200 [0xC3, 0x00, 0x02]) bus) = some (0x0200, 0x0202, 0x02) := by decide

theorem test_pchl :
    (see { boot 0x0200 [0xE9] with h := 0xFF, l := 0xFF } bus) = some (0xFFFF, 0x0200, 0xE9) := by decide

theorem test_call_wraps_stack :
    (see { boot 0x0200 [0xCD, 0x34, 0x12] with sp := 0x0001 } fun t =>
      (t.sp, t.byteAt 0xFFFF, t.byteAt 0x0000, bus t)) = some (0xFFFF, 0x03, 0x02, 0x1234, 0x0000, 0x02) := by decide

theorem test_call_wraps_return_address :
    (see { boot 0xFFFD [0xCD, 0x34, 0x12] with sp := 0x8000 } fun t =>
      (t.sp, t.byteAt 0x7FFE, t.byteAt 0x7FFF, bus t)) = some (0x7FFE, 0x00, 0x00, 0x1234, 0x7FFF, 0x00) := by decide

theorem test_cnz_not_taken :
    (see { boot 0x0200 [0xC4, 0x34, 0x12] with sp := 0x0100, flags := szapc 0 1 0 0 0 } fun t => (t.sp, bus t)) =
      some (0x0100, 0x0203, 0x0202, 0x12) := by decide

theorem test_cm_taken :
    (see { boot 0x0200 [0xFC, 0x34, 0x12] with sp := 0x0100, flags := szapc 1 0 0 0 0 } fun t =>
      (t.sp, t.pc, t.byteAt 0x00FE, t.byteAt 0x00FF)) = some (0x00FE, 0x1234, 0x03, 0x02) := by decide

theorem test_ret :
    (see { withBytes (boot 0x0200 [0xC9]) 0xFFFF [0x34, 0x12] with sp := 0xFFFF } fun t => (t.sp, bus t)) =
      some (0x0001, 0x1234, 0x0000, 0x12) := by decide

theorem test_rnc_not_taken :
    (see { boot 0x0200 [0xD0] with sp := 0x0100, flags := szapc 0 0 0 0 1 } fun t => (t.sp, bus t)) =
      some (0x0100, 0x0201, 0x0200, 0xD0) := by decide

theorem test_rst0 :
    (see { boot 0x0200 [0xC7] with sp := 0x0100, a := 0x55 } fun t =>
      (t.sp, t.a, t.byteAt 0x00FE, t.byteAt 0x00FF, bus t)) =
      some (0x00FE, 0x55, 0x01, 0x02, 0x0000, 0x00FF, 0x02) := by decide

theorem test_rst7 :
    (see { boot 0x0200 [0xFF] with sp := 0x0100 } fun t => t.pc) = some 0x0038 := by decide

/-! ### Stack, I/O, machine control (V8, W7) -/

theorem test_push_psw :
    (see { boot 0x0200 [0xF5] with sp := 0x0100, a := 0xFF, flags := szapc 1 1 1 1 1 } fun t =>
      (t.sp, t.byteAt 0x00FE, t.byteAt 0x00FF, bus t)) = some (0x00FE, 0xD7, 0xFF, 0x0201, 0x00FF, 0xFF) := by decide

theorem test_push_d :
    (see { boot 0x0200 [0xD5] with d := 0x12, e := 0x34 } fun t => (t.sp, t.byteAt 0xFFFE, t.byteAt 0xFFFF)) =
      some (0xFFFE, 0x34, 0x12) := by decide

theorem test_pop_psw :
    (see { withBytes (boot 0x0200 [0xF1]) 0x0100 [0x28, 0x3C] with sp := 0x0100 } fun t =>
      (t.sp, t.a, t.flags.toByte, bus t)) = some (0x0102, 0x3C, 0x02, 0x0201, 0x0101, 0x3C) := by decide

theorem test_pop_h :
    (see { withBytes (boot 0x0200 [0xE1]) 0xFFFF [0xCD, 0xAB] with sp := 0xFFFF } fun t => (t.sp, t.hl, bus t)) =
      some (0x0001, 0xABCD, 0x0201, 0x0000, 0xAB) := by decide

theorem test_xthl :
    (see { withBytes (boot 0x0200 [0xE3]) 0xFFFF [0xCD, 0xAB] with sp := 0xFFFF, h := 0x12, l := 0x34 } fun t =>
      (t.sp, t.hl, t.byteAt 0xFFFF, t.byteAt 0x0000, bus t)) =
      some (0xFFFF, 0xABCD, 0x34, 0x12, 0x0201, 0x0000, 0x12) := by decide

theorem test_sphl :
    (see { boot 0x0200 [0xF9] with l := 0x01 } fun t => (t.sp, bus t)) = some (0x0001, 0x0201, 0x0200, 0xF9) := by
  decide

/-- IN reads the port's byte, whatever it is: a free value, so only the other fields are numbers. -/
theorem test_in :
    (see (boot 0x0200 [0xDB, 0x10]) fun t => (t.a, t.flags.toByte, bus t)) =
      some ((boot 0x0200 [0xDB, 0x10]).portByte 0x10, 0x02, 0x0202, 0x0201, 0x10) := rfl

/-- A port that is not mapped for reading gives 0 (W7). -/
theorem test_in_unmapped (s : State) (port : Byte) (h : Config.readMapped s.binding port = false) :
    (s.ioRead port).1 = 0x00 := by simp [State.ioRead, State.portByte, h]

/-- After an OUT to a port with no write handler every port answers as before (R72, R237). -/
theorem test_out_unmapped (s : State) (port v q : Byte) (h : Config.writeMapped s.binding port = false) :
    (s.ioWrite port v).portByte q = s.portByte q := by
  have hb : (s.ioWrite port v).binding = s.binding := by simp [State.binding, bindings_append]
  have hh := handlerHistory_drop s.io [] (.output port v) h
  simp only [List.append_nil] at hh
  simp [State.portByte, hb, hh]

theorem test_out :
    (see { boot 0x0200 [0xD3, 0x11] with a := 0x33 } fun t => (t.a, t.io, bus t)) =
      some (0x33, [.output 0x11 0x33], 0x0202, 0x0201, 0x11) := by decide

theorem test_ei_di :
    (see (boot 0x0200 [0xFB]) fun t => (t.inte, t.flags.toByte, bus t)) =
      some (true, 0x02, 0x0201, 0x0200, 0xFB) ∧
    (see { boot 0x0200 [0xF3] with inte := true } fun t => t.inte) = some false := by decide

theorem test_hlt :
    (see (boot 0x0200 [0x76]) fun t => (t.halted, bus t)) = some (true, 0x0201, 0x0200, 0x76) := by decide

theorem test_nop_pc_wraps : (see (boot 0xFFFF [0x00]) bus) = some (0x0000, 0xFFFF, 0x00) := by decide

/-! ### Undefined values (V9, P5) -/

/-- The setup of V9. -/
def undefSetup (op : Byte) : State :=
  { withBytes (boot 0x0200 [op, 0x34, 0x12]) 0x0100 [0x78, 0x56] with sp := 0x0100 }

theorem test_undefined_faults :
    undefinedOpcodes.all (fun op =>
      (see (undefSetup op) fun t => (t.faultMark, t.sp, bus t)) ==
        some (some { addr := 0x0200, opcode := op }, 0x0100, 0x0201, 0x0200, op)) = true := by decide

theorem test_alias_nop :
    [0x08, 0x10, 0x18, 0x20, 0x28, 0x30, 0x38].all (fun op =>
      (see { undefSetup op with cfg := intel } fun t => (t.faultMark, t.sp, t.pc)) ==
        some (none, 0x0100, 0x0201)) = true := by decide

theorem test_alias_jmp_ret :
    (see { undefSetup 0xCB with cfg := intel } fun t => (t.sp, t.pc)) = some (0x0100, 0x1234) ∧
    (see { undefSetup 0xD9 with cfg := intel } fun t => (t.sp, t.pc)) = some (0x0102, 0x5678) := by decide

theorem test_alias_call :
    [0xDD, 0xED, 0xFD].all (fun op =>
      (see { undefSetup op with cfg := intel } fun t => (t.sp, t.pc, t.byteAt 0x00FE, t.byteAt 0x00FF)) ==
        some (0x00FE, 0x1234, 0x03, 0x02)) = true := by decide

/-! ### Reset, halt, fault, panel (X1 to X11, W5) -/

/-- The starting state of X1. -/
def busy : State :=
  { boot 0x1234 [0x76] with
    a := 0x12, flags := szapc 1 1 1 1 1, b := 0x34, c := 0x56, sp := 0x7FFF, inte := true, halted := true
    ab := 0x0100, db := 0x99, ir := 0x76 }

theorem test_reset_keeps_memory :
    busy.hostReset = { State.reset with mem := busy.mem, io := [.bound] } ∧ State.reset.flags.toByte = 0x02 := by
  decide

theorem test_halted_step : step busy = .next busy ∧ busy.stepReport = .halted := ⟨rfl, by decide⟩

theorem test_stopped_step :
    step { State.reset with faultMark := some { addr := 2, opcode := 8 } } = .fault (.stopped 2 8) := rfl

theorem test_reports :
    (boot 0 [0x3E, 0x01]).stepReport = .ran ∧ (boot 2 [0x08, 0x76]).stepReport = .faulted ∧
      { boot 2 [0x08, 0x76] with cfg := intel }.stepReport = .ran := by decide

theorem test_examine :
    bus ((boot 0x0100 [0x3E]).hostReset.examine 0x0100 true) = (0x0100, 0x0100, 0x3E) ∧
      bus ((boot 0x0100 [0x3E]).hostReset.examine 0x0100 false) = (0x0000, 0x0100, 0x3E) := by decide

theorem test_deposit :
    bus ({ State.reset with ab := 0x0100 }.deposit 0x55) = (0x0000, 0x0100, 0x55) ∧
      ({ State.reset with ab := 0x0100 }.deposit 0x55).byteAt 0x0100 = 0x55 := by decide

theorem test_deposit_next_wraps :
    bus ({ State.reset with ab := 0xFFFF }.depositNext 0x11) = (0x0000, 0x0000, 0x11) ∧
      ({ State.reset with ab := 0xFFFF }.depositNext 0x11).mem = [(0xFFFF, 0x11)] := by decide

theorem test_examine_next_wraps :
    bus ({ boot 0 [0x21] with ab := 0xFFFF }.examineNext) = (0x0000, 0x0000, 0x21) := by decide

/-- The three bytes of W5, deposited. -/
def deposited : State :=
  [0xAA, 0xBB, 0xCC].foldl State.depositNext (State.reset.examine 0x1234 false)

theorem test_examine_shows_deposited :
    bus deposited = (0x0000, 0x1237, 0xCC) ∧ (deposited.examine 0x1234 false).db = 0xAA ∧
      (deposited.examine 0x1234 false).examineNext.db = 0xBB ∧
      bus (deposited.examine 0x1234 false).examineNext.examineNext = (0x0000, 0x1236, 0xCC) := by decide

/-! ### Witnesses: a state and operands that meet every hypothesis of each statement -/

theorem witness_MovCopiesRegisterOrByteAtHl :
    exec (Form.movRR .b .c).instr { State.reset with c := 7 } = .next { State.reset with b := 7, c := 7 } := rfl

theorem witness_ConditionalJumpsTestOneFlag :
    (szapc 0 0 0 0 0).holds .nz = true ∧ (szapc 0 1 0 0 0).holds .nz = false ∧
      (szapc 1 0 0 0 0).holds .m = true := by decide

theorem witness_UndefinedOpcodeSetsFault :
    (undefSetup 0x08).cfg.undefPolicy = .fault ∧ (undefSetup 0x08).Running ∧
      (undefSetup 0x08).byteAt (undefSetup 0x08).pc = UndefOp.u08.byte ∧
      (undefSetup 0xFD).cfg.undefPolicy = .fault ∧ (undefSetup 0xFD).Running ∧
      (undefSetup 0xFD).byteAt (undefSetup 0xFD).pc = UndefOp.uFD.byte :=
  ⟨rfl, ⟨rfl, rfl⟩, by decide, rfl, ⟨rfl, rfl⟩, by decide⟩

theorem witness_UndefinedOpcodeRunsIntelAlias :
    { undefSetup 0xDD with cfg := intel }.cfg.undefPolicy = .intelAlias ∧
      UndefOp.u08 ∈ [UndefOp.u08, .u10, .u18, .u20, .u28, .u30, .u38] ∧
      UndefOp.uFD ∈ [UndefOp.uDD, .uED, .uFD] := by decide

theorem witness_DecodeAndEncodeAreInverse :
    decode [0xCD, 0x34, 0x12, 0x55] = .ok (.call 0x1234, [0x55]) := rfl

theorem witness_LengthAndDefinednessOfTheOpcode :
    decode [0x3E, 0x01, 0x02] = .ok (.mviA 0x01, [0x02]) ∧ decode [0x3E, 0xFF, 0xFE] = .ok (.mviA 0xFF, [0xFE]) ∧
      decode [0x01, 0x02] = .error (.truncated 0x01) ∧ decode [0xFD, 0x00, 0x00] = .ok (.undefFD, [0x00, 0x00]) :=
  ⟨rfl, rfl, rfl, rfl⟩

theorem witness_StepRunsTheDecodedInstruction :
    (boot 0xFFFF [0xC3, 0x34, 0x12]).Running ∧
      decode (boot 0xFFFF [0xC3, 0x34, 0x12]).bytesAtPc = .ok (.jmp 0x1234, []) ∧
      (boot 0 [0x76]).Running ∧ decode (boot 0 [0x76]).bytesAtPc = .ok (.hlt, [0x00, 0x00]) :=
  ⟨⟨rfl, rfl⟩, rfl, ⟨rfl, rfl⟩, rfl⟩

theorem witness_StepStopsExactlyWhenFaultIsSet :
    { State.reset with faultMark := some { addr := 2, opcode := 8 } }.faultMark = some { addr := 2, opcode := 8 } ∧
      State.reset.faultMark = none ∧ busy.faultMark = none ∧ busy.halted = true := by decide

theorem witness_FaultsExactlyOnUndefinedOpcodes :
    (undefSetup 0x08).Running ∧ (undefSetup 0x08).stepReport = .faulted ∧
      (boot 0 [0x00]).Running ∧ (boot 0 [0x00]).stepReport = .ran :=
  ⟨⟨rfl, rfl⟩, by decide, ⟨rfl, rfl⟩, by decide⟩

theorem witness_EndedRunsStayEnded :
    busy.runEnd = some .normal ∧
      { State.reset with faultMark := some { addr := 2, opcode := 8 } }.faultMark = some { addr := 2, opcode := 8 } := by
  decide

theorem witness_MemoryReadsBackWhatWasWritten :
    (boot 0xFFFF [0x34, 0x12]).mem.wf ∧ (boot 0xFFFF [0x34, 0x12]).mem.length = 2 ∧
      ((boot 0 [0x99]).memWrite2 0xFFFF 0x1234).byteAt 0x0000 = 0x12 := by decide

theorem witness_CanonicalMemoriesThatReadAlikeAreEqual :
    Memory.wf ((Memory.write8 [] 7 0x22).write8 3 0x11) ∧
      (Memory.write8 [] 7 0x22).write8 3 0x11 = (Memory.write8 [] 3 0x11).write8 7 0x22 := by decide

theorem witness_MemoryStaysCanonical :
    { boot 0 [0x77] with a := 0x99, h := 0x12 }.mem.wf ∧
      (see { boot 0 [0x77] with a := 0x99, h := 0x12 } fun t => decide t.mem.wf) = some true := by decide

theorem witness_MemoryFrame :
    (0x1235 : Word) ∉ Form.storedAt { State.reset with h := 0x12, l := 0x34 } (.movMR .a) ∧
      (0x0001 : Word) ∉ Form.storedAt State.reset .pushPsw ∧
      Form.storedAt State.reset .pushPsw = [0xFFFE, 0xFFFF] := by decide

theorem witness_RegisterFrame :
    Reg.c ∉ Form.regsWritten (.inrR .b) ∧ Form.spWritten (.inrR .b) = false := by decide

theorem witness_ControlFrame :
    Form.nop ≠ .ei ∧ Form.nop ≠ .di ∧ Form.nop ≠ .hlt ∧
      (∀ u, Form.nop = .undef u → State.reset.cfg.undefPolicy ≠ .fault) ∧
      { State.reset with cfg := intel }.cfg.undefPolicy ≠ .fault ∧ (∀ p, Form.nop ≠ .inPort p) ∧
      (∀ p, Form.nop ≠ .outPort p) :=
  ⟨nofun, nofun, nofun, nofun, by decide, nofun, nofun⟩

theorem witness_NoInstructionReadsTheObservables : (boot 0 [0x77]).Running := ⟨rfl, rfl⟩

theorem witness_StepKeepsTheControlInvariant :
    ControlInv (boot 0x0200 [0x08]) ∧
      (see (boot 0x0200 [0x08]) fun t => (t.faultMark, t.ir, t.pc)) =
        some (some { addr := 0x0200, opcode := 0x08 }, 0x08, 0x0201) ∧
      ControlInv busy ∧ step busy = .next busy :=
  ⟨⟨nofun, nofun, nofun, nofun, nofun⟩, by decide, ⟨nofun, nofun, nofun, nofun, fun _ => rfl⟩, rfl⟩

theorem witness_HostInteractionsLeaveRegistersAlone :
    HostOp.examine 0x0100 true ≠ .reset ∧ (∀ x, HostOp.examine 0x0100 false ≠ .examine x true) ∧
      HostOp.loadImage 0 [0x76] ≠ .reset := ⟨nofun, nofun, nofun⟩

theorem witness_ExamineShowsWhatWasDeposited :
    State.reset.mem.wf ∧ [(0xAA : Byte), 0xBB, 0xCC].length ≤ 65536 ∧ 2 < [(0xAA : Byte), 0xBB, 0xCC].length := by
  decide

end Sys2Proof.Tests
end

section
/-! The register pairs and the single registers as views of one store (10_state.md R23, R24). -/

namespace Sys2Proof.Machine

variable (s : State)

/-! ### What a pair reads, as a number -/

theorem bc_toNat : s.bc.toNat = s.b.toNat * 256 + s.c.toNat := cat16_toNat s.b s.c
theorem de_toNat : s.de.toNat = s.d.toNat * 256 + s.e.toNat := cat16_toNat s.d s.e
theorem hl_toNat : s.hl.toNat = s.h.toNat * 256 + s.l.toNat := cat16_toNat s.h s.l
theorem psw_toNat : s.psw.toNat = s.a.toNat * 256 + s.flags.toByte.toNat := cat16_toNat s.a s.flags.toByte

/-! ### Reading back a written pair -/

/-- The two halves of a written word join to that word again; SP is held whole. -/
@[simp] theorem getPair_setPair_same (p : Pair) (w : Word) : (s.setPair p w).getPair p = w := by
  cases p with
  | bc | de | hl => exact cat16_hi8_lo8 w
  | sp => rfl

/-! ### Overwriting and restoring a register -/

/-- A second write of a register leaves no trace of the first. -/
@[simp] theorem setReg_setReg_same (r : Reg) (v w : Byte) : (s.setReg r v).setReg r w = s.setReg r w := by
  cases r <;> rfl

/-- Writing back the byte a register holds changes nothing. -/
@[simp] theorem setReg_getReg_same (r : Reg) : s.setReg r (s.getReg r) = s := by
  cases r <;> rfl

/-- A register write touches no other part of the state: the old byte, written back, restores it. -/
theorem setReg_restore (r : Reg) (v : Byte) : (s.setReg r v).setReg r (s.getReg r) = s := by
  rw [setReg_setReg_same, setReg_getReg_same]

end Sys2Proof.Machine

namespace Sys2Proof

open Machine

/-- Settles O2: `cat16` and `hi8`, `lo8` are inverse to each other, and each setter writes only its own fields. -/
theorem pairsAreTheirTwoHalves : Obligations.PairsAreTheirTwoHalves := by
  unfold Obligations.PairsAreTheirTwoHalves
  refine ⟨?pairRead, ?wordHalves, ?pairWrite, ?regWrite⟩
  case pairRead => exact fun s => ⟨bc_toNat s, de_toNat s, hl_toNat s, psw_toNat s⟩
  case wordHalves => exact fun w => ⟨hi8_toNat w, lo8_toNat w⟩
  case pairWrite => exact fun s w => ⟨rfl, rfl, rfl, rfl, rfl, fun p => getPair_setPair_same s p w⟩
  case regWrite => exact fun s r r' v => ⟨getReg_setReg s r r' v, setReg_restore s r v⟩

end Sys2Proof
end

section
/-! The flag ALU as arithmetic on naturals (40_alu_flags.md R100 to R107). -/

namespace Sys2Proof.Machine

/-! ### Nibbles and bits as numbers -/

/-- Masking with 0x0F is the remainder modulo 16. -/
@[simp] theorem lowNibble_eq_mod (v : Byte) : lowNibble v = v.toNat % 16 := by
  unfold lowNibble
  rw [BitVec.toNat_and]
  exact Nat.and_two_pow_sub_one_eq_mod v.toNat 4

/-- Complementing a byte complements its low nibble. -/
theorem toNat_not_mod_sixteen (v : Byte) : (~~~v).toNat % 16 = 15 - v.toNat % 16 := by
  rw [BitVec.toNat_not]
  omega

/-- Bit 7 is set in the upper half of the byte range. -/
theorem getLsbD_seven_eq_decide (v : Byte) : v.getLsbD 7 = decide (128 ≤ v.toNat) :=
  BitVec.msb_eq_decide v

/-- Counting the 1 bits is adding up the binary digits. -/
theorem popcount_eq_sum_digits (v : Byte) :
    popcount v = ((List.range 8).map fun i => v.toNat / 2 ^ i % 2).sum := by
  have bit_eq_digit (i : Nat) : (v.getLsbD i).toNat = v.toNat / 2 ^ i % 2 := Nat.toNat_testBit v.toNat i
  simp only [← bit_eq_digit]
  unfold popcount
  induction List.range 8 with
  | nil => rfl
  | cons i is ih => cases h : v.getLsbD i <;> simp [h, ih, Nat.add_comm]

/-! ### The flags of a result (R100) -/

section FlagsOf

variable (res : Byte) (ac cy : Bool)

theorem flagsOf_s : (flagsOf res ac cy).s = decide (128 ≤ res.toNat) := getLsbD_seven_eq_decide res

theorem flagsOf_z : (flagsOf res ac cy).z = decide (res.toNat = 0) :=
  decide_eq_decide.mpr BitVec.toNat_inj.symm

theorem flagsOf_p :
    (flagsOf res ac cy).p = decide (((List.range 8).map fun i => res.toNat / 2 ^ i % 2).sum % 2 = 0) := by
  rw [← popcount_eq_sum_digits]
  rfl

@[simp] theorem flagsOf_ac : (flagsOf res ac cy).ac = ac := rfl

@[simp] theorem flagsOf_cy : (flagsOf res ac cy).cy = cy := rfl

end FlagsOf

/-! ### Addition (R101) -/

theorem add8_res_toNat (a b : Byte) (cin : Bool) :
    (add8 a b cin).res.toNat = (a.toNat + b.toNat + cin.toNat) % 256 :=
  BitVec.toNat_ofNat _ 8

theorem add8_flags (a b : Byte) (cin : Bool) :
    (add8 a b cin).flags =
      flagsOf (add8 a b cin).res (decide (16 ≤ a.toNat % 16 + b.toNat % 16 + cin.toNat))
        (decide (256 ≤ a.toNat + b.toNat + cin.toNat)) := by
  simp [add8]

/-! ### Subtraction (R102, R103) -/

theorem sub8_res_toNat (mode : AcSubMode) (a b : Byte) (bin : Bool) :
    ((sub8 mode a b bin).res.toNat : Int) = ((a.toNat : Int) - b.toNat - bin.toNat) % 256 := by
  simp only [sub8, BitVec.toNat_ofInt]
  omega

/-- The integer difference is negative exactly when the minuend is smaller than what is taken from it. -/
theorem sub8_flags (mode : AcSubMode) (a b : Byte) (bin : Bool) :
    (sub8 mode a b bin).flags =
      flagsOf (sub8 mode a b bin).res (acSub mode a b bin) (decide (a.toNat < b.toNat + bin.toNat)) := by
  have negative_iff_borrow :
      (a.toNat : Int) - b.toNat - bin.toNat < 0 ↔ a.toNat < b.toNat + bin.toNat := by omega
  simp only [sub8, negative_iff_borrow]

theorem acSub_borrow (a b : Byte) (bin : Bool) :
    acSub .borrow a b bin = decide (a.toNat % 16 < b.toNat % 16 + bin.toNat) := by
  simp only [acSub, lowNibble_eq_mod]

theorem acSub_intel (a b : Byte) (bin : Bool) :
    acSub .intel a b bin = decide (16 ≤ a.toNat % 16 + (~~~b).toNat % 16 + (1 - bin.toNat)) := by
  simp only [acSub, lowNibble_eq_mod, ge_iff_le]

/-- The addition that forms the subtraction carries out of bit 3 exactly when the low nibble needs no borrow. -/
theorem acSub_intel_eq_not_borrow (a b : Byte) (bin : Bool) :
    acSub .intel a b bin = !acSub .borrow a b bin := by
  rw [acSub_intel, acSub_borrow, toNat_not_mod_sixteen, ← decide_not, decide_eq_decide]
  have bin_le_one : bin.toNat ≤ 1 := bin.toNat_le
  omega

/-! ### Increment and decrement (R104, R105) -/

theorem inc8_res_toNat (v : Byte) (cy : Bool) : (inc8 v cy).res.toNat = (v.toNat + 1) % 256 :=
  BitVec.toNat_ofNat _ 8

theorem inc8_ac (v : Byte) (cy : Bool) : (inc8 v cy).flags.ac = decide (v.toNat % 16 = 15) := by
  simp [inc8]

/-- Adding 1 carries out of bit 3 exactly from the low nibble 15. -/
theorem inc8_eq_add8_one (v : Byte) (cy : Bool) :
    inc8 v cy = { res := (add8 v 1 false).res, flags := { (add8 v 1 false).flags with cy := cy } } := by
  have half_carry : (inc8 v cy).flags.ac = (add8 v 1 false).flags.ac := by
    rw [inc8_ac, add8_flags, flagsOf_ac, decide_eq_decide]
    simp only [BitVec.reduceToNat, Bool.toNat_false]
    omega
  simp only [← half_carry]
  rfl

theorem dec8_res_toNat (mode : AcSubMode) (v : Byte) (cy : Bool) :
    (dec8 mode v cy).res.toNat = (v.toNat + 255) % 256 := by
  simp only [dec8, BitVec.toNat_ofInt]
  omega

theorem dec8_eq_sub8_one (mode : AcSubMode) (v : Byte) (cy : Bool) :
    dec8 mode v cy =
      { res := (sub8 mode v 1 false).res, flags := { (sub8 mode v 1 false).flags with cy := cy } } := by
  have difference : (v.toNat : Int) - (1 : Byte).toNat - false.toNat = v.toNat - 1 := Int.sub_zero _
  simp only [dec8, sub8, difference, flagsOf]

theorem dec8_ac (mode : AcSubMode) (v : Byte) (cy : Bool) :
    (dec8 mode v cy).flags.ac = acSub mode v 1 false := rfl

theorem dec8_ac_borrow (v : Byte) (cy : Bool) :
    (dec8 .borrow v cy).flags.ac = decide (v.toNat % 16 = 0) := by
  rw [dec8_ac, acSub_borrow, decide_eq_decide]
  exact Nat.lt_one_iff

theorem dec8_ac_intel (v : Byte) (cy : Bool) :
    (dec8 .intel v cy).flags.ac = decide (v.toNat % 16 ≠ 0) := by
  rw [dec8_ac, acSub_intel_eq_not_borrow, ← dec8_ac .borrow v cy, dec8_ac_borrow, decide_not]

/-! ### The logical AND (R106, R107) -/

/-- R107 with the half-carry of R106 in either mode. -/
theorem and8_eq (mode : AcAndMode) (a b : Byte) :
    and8 mode a b = { res := a &&& b, flags := flagsOf (a &&& b) (acAnd mode a b) false } := rfl

@[simp] theorem acAnd_clear (a b : Byte) : acAnd .clear a b = false := rfl

@[simp] theorem acAnd_intel (a b : Byte) : acAnd .intel a b = (a.getLsbD 3 || b.getLsbD 3) := rfl

end Sys2Proof.Machine

namespace Sys2Proof

open Machine

/-- Settles O6: the borrow is the sign of the integer difference, and the two half-carries are compared as
sums of low nibbles, where the complement of b has 15 minus b's. -/
theorem subtractionResultBorrowAndHalfCarry : Obligations.SubtractionResultBorrowAndHalfCarry := by
  unfold Obligations.SubtractionResultBorrowAndHalfCarry
  exact fun mode a b bin =>
    ⟨sub8_res_toNat mode a b bin, sub8_flags mode a b bin, acSub_borrow a b bin, acSub_intel a b bin,
      acSub_intel_eq_not_borrow a b bin⟩

/-- Settles O4: bit 7 is the upper half of the range, and the 1 bits are counted as binary digits. -/
theorem signZeroParityOfResult : Obligations.SignZeroParityOfResult := by
  unfold Obligations.SignZeroParityOfResult
  exact fun res ac cy =>
    ⟨flagsOf_s res ac cy, flagsOf_z res ac cy, flagsOf_p res ac cy, flagsOf_ac res ac cy, flagsOf_cy res ac cy⟩

/-- Settles O5: the masked nibbles are the operands modulo 16. -/
theorem additionResultCarryAndHalfCarry : Obligations.AdditionResultCarryAndHalfCarry := by
  unfold Obligations.AdditionResultCarryAndHalfCarry
  exact fun a b cin => ⟨add8_res_toNat a b cin, add8_flags a b cin⟩

/-- Settles O7: both are the addition and the subtraction of 1 with the given CY put in, so the half-carry
of each is that of R101 and R103 with 1 as the second operand. -/
theorem incrementDecrementKeepCarry : Obligations.IncrementDecrementKeepCarry := by
  unfold Obligations.IncrementDecrementKeepCarry
  intro mode v cy
  refine ⟨?incResult, ?incIsAdd, ?incHalfCarry, ?decResult, ?decIsSub, ?decBorrow, ?decIntel⟩
  case incResult => exact inc8_res_toNat v cy
  case incIsAdd => exact inc8_eq_add8_one v cy
  case incHalfCarry => exact inc8_ac v cy
  case decResult => exact dec8_res_toNat mode v cy
  case decIsSub => exact dec8_eq_sub8_one mode v cy
  case decBorrow => exact dec8_ac_borrow v cy
  case decIntel => exact dec8_ac_intel v cy

/-- Settles O8: only AND's half-carry depends on a mode, and the mode only selects its value. -/
theorem logicalFunctionsClearCarry : Obligations.LogicalFunctionsClearCarry := by
  unfold Obligations.LogicalFunctionsClearCarry
  intro a b
  refine ⟨?andClear, ?andIntel, ?xor, ?or⟩
  case andClear => rw [and8_eq, acAnd_clear]
  case andIntel => rw [and8_eq, acAnd_intel]
  case xor => rfl
  case or => rfl

end Sys2Proof
end

section
/-! The data transfer instructions (41_data_transfer.md R120 to R132): the opcode value of each row, and the whole next state. -/

namespace Sys2Proof

open Machine

/-! ### The opcode values of the rules with register or pair operands -/

theorem encode_movRR (dst src : Reg) :
    encode (Form.movRR dst src).instr = [BitVec.ofNat 8 (64 + 8 * dst.code + src.code)] := by
  cases dst <;> cases src <;> rfl

theorem encode_movRM (dst : Reg) :
    encode (Form.movRM dst).instr = [BitVec.ofNat 8 (64 + 8 * dst.code + 6)] := by
  cases dst <;> rfl

theorem encode_movMR (src : Reg) :
    encode (Form.movMR src).instr = [BitVec.ofNat 8 (64 + 8 * 6 + src.code)] := by
  cases src <;> rfl

theorem encode_mviR (dst : Reg) (d8 : Byte) :
    encode (Form.mviR dst d8).instr = [BitVec.ofNat 8 (8 * dst.code + 6), d8] := by
  cases dst <;> rfl

theorem encode_lxi (p : Pair) (d16 : Word) :
    encode (Form.lxi p d16).instr = [BitVec.ofNat 8 (16 * p.code + 1), lo8 d16, hi8 d16] := by
  cases p <;> rfl

theorem encode_ldax (p : IndexPair) :
    encode (Form.ldax p).instr = [BitVec.ofNat 8 (16 * p.code + 10)] := by
  cases p <;> rfl

theorem encode_stax (p : IndexPair) :
    encode (Form.stax p).instr = [BitVec.ofNat 8 (16 * p.code + 2)] := by
  cases p <;> rfl

/-! ### Next states -/

/-- An instruction takes the state that its rule leaves, however that state is written. -/
theorem exec_eq_next_of_after {f : Form} {s t : State} (h : f.after s = t) :
    exec f.instr s = .next t := by
  rw [exec_eq_after, h]

/-- A register write commutes with what a bus access leaves in AB and DB. -/
theorem Machine.setReg_observe (s : State) (x : Word) (v : Byte) (r : Reg) (w : Byte) :
    (s.observe x v).setReg r w = (s.setReg r w).observe x v := by
  cases r <;> rfl

/-- The whole state after one byte store (20_memory.md R53, R57). -/
theorem Machine.memWrite1_eq (s : State) (x : Word) (v : Byte) :
    s.memWrite1 x v = { s with mem := s.mem.write8 x.toNat v, ab := x, db := v } := rfl

/-! ### The statements -/

/-- Settles O10: MOV r,M reads at the old HL, since the bus read changes AB and DB alone. -/
theorem movCopiesRegisterOrByteAtHl : Obligations.MovCopiesRegisterOrByteAtHl := by
  unfold Obligations.MovCopiesRegisterOrByteAtHl
  refine ⟨?regReg, ?regMem, ?memReg⟩
  case regReg =>
    exact fun dst src s => ⟨encode_movRR dst src, exec_eq_next_of_after (Form.after_movRR s dst src)⟩
  case regMem =>
    refine fun dst s => ⟨encode_movRM dst, _, exec_eq_after _ s, ?_⟩
    rw [Form.after_movRM, setReg_observe]
    rfl
  case memReg =>
    refine fun src s => ⟨encode_movMR src, _, exec_eq_after _ s, ?_⟩
    rw [Form.after_movMR, memWrite1_eq]

/-- Settles O11: the register write, or the byte store at HL, of d8. -/
theorem mviMovesImmediate : Obligations.MviMovesImmediate := by
  unfold Obligations.MviMovesImmediate
  refine ⟨?reg, ?mem⟩
  case reg =>
    exact fun dst d8 s => ⟨encode_mviR dst d8, exec_eq_next_of_after (Form.after_mviR s dst d8)⟩
  case mem =>
    refine fun d8 s => ⟨rfl, _, exec_eq_after _ s, ?_⟩
    rw [Form.after_mviM, memWrite1_eq]

/-- Settles O12: each pair write is a write of its two halves, and SP is held whole. -/
theorem lxiLoadsPair : Obligations.LxiLoadsPair := by
  unfold Obligations.LxiLoadsPair
  intro d16 s
  have loads (p : Pair) : exec (Form.lxi p d16).instr s = .next (s.setPair p d16) :=
    exec_eq_next_of_after (Form.after_lxi s p d16)
  exact ⟨fun p => encode_lxi p d16, loads .bc, loads .de, loads .hl, loads .sp⟩

/-- Settles O13: the word transfers split into the byte of L at a16 and the byte of H at a16 + 1. -/
theorem directLoadsAndStores : Obligations.DirectLoadsAndStores := by
  unfold Obligations.DirectLoadsAndStores
  intro a16 s
  refine ⟨rfl, ⟨_, exec_eq_after _ s, ?lda⟩, rfl, ⟨_, exec_eq_after _ s, ?sta⟩,
    rfl, ⟨_, exec_eq_after _ s, ?lhld⟩, rfl, ⟨_, exec_eq_after _ s, ?shld⟩⟩
  case lda => rw [Form.after_lda]
  case sta => rw [Form.after_sta]
  case lhld => rw [Form.after_lhld]
  case shld => rw [Form.after_shld]

/-- Settles O14: the transfers of LDA and STA, at the address in the pair. -/
theorem ldaxStaxMoveAccumulatorIndirect : Obligations.LdaxStaxMoveAccumulatorIndirect := by
  unfold Obligations.LdaxStaxMoveAccumulatorIndirect
  intro p s
  refine ⟨rfl, rfl, encode_ldax p, ⟨_, exec_eq_after _ s, ?ldax⟩, encode_stax p, ⟨_, exec_eq_after _ s, ?stax⟩⟩
  case ldax => rw [Form.after_ldax]
  case stax => rw [Form.after_stax]

/-- Settles O15: the exchange is its own inverse. -/
theorem xchgSwapsPairs : Obligations.XchgSwapsPairs := by
  unfold Obligations.XchgSwapsPairs
  exact fun s => ⟨rfl, exec_eq_next_of_after (Form.after_xchg s), exec_eq_next_of_after (Form.after_xchg _)⟩

end Sys2Proof
end

section
/-! The arithmetic and logic instructions (42_arithmetic.md R140 to R159, 43_logical.md R170 to R181): the opcode value of each row, and the whole next state. -/

namespace Sys2Proof.Machine

/-! ### The ALU operations (R108) -/

/-- Dispatching on the operation and then writing A and the flags is each operation's own rule. -/
theorem aluApply_eq_afterAlu (s : State) (op : AluOp) (v : Byte) :
    s.aluApply op v = s.afterAlu op v := by
  cases op <;> rfl

/-- An ALU operation commutes with what a bus access leaves in AB and DB. -/
theorem afterAlu_observe (s : State) (x : Word) (w : Byte) (op : AluOp) (v : Byte) :
    (s.observe x w).afterAlu op v = (s.afterAlu op v).observe x w := by
  cases op <;> rfl

/-! ### Counting and adding (R104, R105, R109) -/

/-- The result of `inc8` is the byte sum, whose wrap is that of R104. -/
theorem inc8_res (v : Byte) (cy : Bool) : (inc8 v cy).res = v + 1 :=
  BitVec.eq_of_toNat_eq (inc8_res_toNat v cy)

/-- Subtracting 1 is adding 255 modulo 256. -/
theorem dec8_res (mode : AcSubMode) (v : Byte) (cy : Bool) : (dec8 mode v cy).res = v - 1 := by
  apply BitVec.eq_of_toNat_eq
  rw [dec8_res_toNat]
  bv_omega

theorem add16_eq (a b : Word) :
    add16 a b = (a + b, decide (65536 ≤ a.toNat + b.toNat)) := rfl

/-! ### Decimal adjust (R110) -/

theorem daaLow_eq (a : Byte) (ac : Bool) : daaLow a ac = (ac || decide (9 < a.toNat % 16)) := by
  simp only [daaLow, lowNibble_eq_mod, gt_iff_lt]

theorem daaHigh_eq (a : Byte) (cy : Bool) :
    daaHigh a cy =
      (cy || decide (9 < a.toNat / 16) || (decide (9 ≤ a.toNat / 16) && decide (9 < a.toNat % 16))) := by
  simp only [daaHigh, lowNibble_eq_mod, gt_iff_lt, ge_iff_le]

/-- The two corrections never overflow a byte, so they may be added as naturals. -/
theorem daaCorrection_eq_ofNat (low high : Bool) :
    (if low then 0x06#8 else 0#8) + (if high then 0x60#8 else 0#8) =
      BitVec.ofNat 8 ((if low then 0x06 else 0) + (if high then 0x60 else 0)) := by
  cases low <;> cases high <;> rfl

/-- The decimal adjust is one addition of the joint correction, with CY only ever set. -/
theorem daa_eq_add8 (a : Byte) (ac cy : Bool) :
    daa a ac cy =
      let r := add8 a
        (BitVec.ofNat 8 ((if daaLow a ac then 0x06 else 0) + (if daaHigh a cy then 0x60 else 0))) false
      { res := r.res, flags := { r.flags with cy := cy || daaHigh a cy } } := by
  simp only [daa, daaCorrection_eq_ofNat]

end Sys2Proof.Machine

namespace Sys2Proof

open Machine

/-! ### The opcode values of the rules with operands -/

theorem encode_aluR (op : AluOp) (src : Reg) :
    encode (Form.aluR op src).instr = [BitVec.ofNat 8 (128 + 8 * op.code + src.code)] := by
  cases op <;> cases src <;> rfl

theorem encode_aluM (op : AluOp) :
    encode (Form.aluM op).instr = [BitVec.ofNat 8 (128 + 8 * op.code + 6)] := by
  cases op <;> rfl

theorem encode_aluI (op : AluOp) (d8 : Byte) :
    encode (Form.aluI op d8).instr = [BitVec.ofNat 8 (192 + 8 * op.code + 6), d8] := by
  cases op <;> rfl

theorem encode_inrR (r : Reg) : encode (Form.inrR r).instr = [BitVec.ofNat 8 (8 * r.code + 4)] := by
  cases r <;> rfl

theorem encode_dcrR (r : Reg) : encode (Form.dcrR r).instr = [BitVec.ofNat 8 (8 * r.code + 5)] := by
  cases r <;> rfl

theorem encode_inx (p : Pair) : encode (Form.inx p).instr = [BitVec.ofNat 8 (16 * p.code + 3)] := by
  cases p <;> rfl

theorem encode_dcx (p : Pair) : encode (Form.dcx p).instr = [BitVec.ofNat 8 (16 * p.code + 11)] := by
  cases p <;> rfl

theorem encode_dad (p : Pair) : encode (Form.dad p).instr = [BitVec.ofNat 8 (16 * p.code + 9)] := by
  cases p <;> rfl

/-! ### The statements -/

/-- Settles O16: the shared ALU step is each operation's own rule. -/
theorem aluRegisterForms : Obligations.AluRegisterForms := by
  unfold Obligations.AluRegisterForms
  refine fun op src s => ⟨encode_aluR op src, exec_eq_next_of_after ?_⟩
  rw [Form.after_aluR, aluApply_eq_afterAlu]

/-- Settles O17: the bus read at HL changes AB and DB alone, which no ALU operation reads. -/
theorem aluMemoryForms : Obligations.AluMemoryForms := by
  unfold Obligations.AluMemoryForms
  refine fun op s => ⟨encode_aluM op, _, exec_eq_after _ s, ?_⟩
  rw [Form.after_aluM, aluApply_eq_afterAlu, afterAlu_observe]
  rfl

/-- Settles O18: the register form's step, on d8. -/
theorem aluImmediateForms : Obligations.AluImmediateForms := by
  unfold Obligations.AluImmediateForms
  refine fun op d8 s => ⟨encode_aluI op d8, exec_eq_next_of_after ?_⟩
  rw [Form.after_aluI, aluApply_eq_afterAlu]

/-- Settles O19: the counted bytes are the byte sum and difference, and the given CY is passed through. -/
theorem inrDcrRegister : Obligations.InrDcrRegister := by
  unfold Obligations.InrDcrRegister
  refine fun r s =>
    ⟨encode_inrR r, exec_eq_next_of_after ?inr, encode_dcrR r, exec_eq_next_of_after ?dcr⟩
  case inr => rw [Form.after_inrR, inc8_res]
  case dcr => rw [Form.after_dcrR, dec8_res]

/-- Settles O20: the counts of INR r and DCR r, stored back at HL. -/
theorem inrDcrMemory : Obligations.InrDcrMemory := by
  unfold Obligations.InrDcrMemory
  refine fun s => ⟨rfl, ⟨_, exec_eq_after _ s, ?inr⟩, rfl, ⟨_, exec_eq_after _ s, ?dcr⟩⟩
  case inr => rw [Form.after_inrM, inc8_res, memWrite1_eq]
  case dcr => rw [Form.after_dcrM, dec8_res, memWrite1_eq]

/-- Settles O21: both are one pair write of the counted word. -/
theorem inxDcxCountPairs : Obligations.InxDcxCountPairs := by
  unfold Obligations.InxDcxCountPairs
  exact fun p s =>
    ⟨encode_inx p, exec_eq_next_of_after (Form.after_inx s p),
      encode_dcx p, exec_eq_next_of_after (Form.after_dcx s p)⟩

/-- Settles O22: HL takes the halves of the word sum, and CY is written alone. -/
theorem dadAddsPairToHl : Obligations.DadAddsPairToHl := by
  unfold Obligations.DadAddsPairToHl
  refine fun p s => ⟨encode_dad p, exec_eq_next_of_after ?_⟩
  rw [Form.after_dad, add16_eq]
  rfl

/-- Settles O23: DAA is one addition of both corrections, their conditions read off the digits of A. -/
theorem daaAppliesCorrections : Obligations.DaaAppliesCorrections := by
  unfold Obligations.DaaAppliesCorrections
  refine fun s => ⟨rfl, exec_eq_next_of_after ?_⟩
  rw [Form.after_daa, daa_eq_add8, daaLow_eq, daaHigh_eq]

end Sys2Proof
end

section
/-! The rotates, the complements and the carry instructions (43_logical.md R182 to R188): the moved bits as arithmetic, and the whole next state. -/

namespace Sys2Proof.Machine

/-! ### Bits of A as arithmetic -/

theorem getLsbD_zero_eq_decide (v : Byte) : v.getLsbD 0 = decide (v.toNat % 2 = 1) :=
  Nat.testBit_zero v.toNat

theorem bitByte_toNat (b : Bool) : (bitByte b).toNat = b.toNat := by
  cases b <;> rfl

/-- A left shift vacates bit 0, so the bit put there is added to an even number. -/
theorem shiftLeft_or_bitByte (v : Byte) (b : Bool) :
    (v <<< 1) ||| bitByte b = BitVec.ofNat 8 (v.toNat * 2 % 256 + b.toNat) := by
  have bit_lt : b.toNat < 2 ^ 1 := b.toNat_lt
  have shifted : (v <<< 1).toNat = 2 ^ 1 * (v.toNat % 128) := by
    rw [BitVec.toNat_shiftLeft, Nat.shiftLeft_eq]
    omega
  apply BitVec.eq_of_toNat_eq
  rw [BitVec.toNat_or, shifted, bitByte_toNat, ← Nat.two_pow_add_eq_or_of_lt bit_lt, BitVec.toNat_ofNat]
  omega

/-- A right shift leaves less than 128, so the bit put in bit 7 is added as 128. -/
theorem shiftRight_or_bitByte (v : Byte) (b : Bool) :
    (v >>> 1) ||| (bitByte b <<< 7) = BitVec.ofNat 8 (v.toNat / 2 + b.toNat * 128) := by
  have halved_lt : v.toNat / 2 < 2 ^ 7 := by omega
  have raised : (bitByte b <<< 7).toNat = 2 ^ 7 * b.toNat := by
    cases b <;> rfl
  apply BitVec.eq_of_toNat_eq
  rw [BitVec.toNat_or, raised, BitVec.toNat_ushiftRight, Nat.shiftRight_eq_div_pow, Nat.pow_one, Nat.or_comm,
    ← Nat.two_pow_add_eq_or_of_lt halved_lt, BitVec.toNat_ofNat]
  have bit_le : b.toNat ≤ 1 := b.toNat_le
  omega

theorem not_eq_ofNat_sub (v : Byte) : ~~~v = BitVec.ofNat 8 (255 - v.toNat) := by
  apply BitVec.eq_of_toNat_eq
  rw [BitVec.toNat_not, BitVec.toNat_ofNat]
  omega

/-- Writing CY keeps the other four flags. -/
theorem setCy_eq (s : State) (cy : Bool) : s.setCy cy = { s with flags := { s.flags with cy := cy } } := rfl

end Sys2Proof.Machine

namespace Sys2Proof

open Machine

/-- Settles O24: a rotate is a shift, which doubles or halves A, with one bit added in the vacated place. -/
theorem rotatesMoveBitsThroughCarry : Obligations.RotatesMoveBitsThroughCarry := by
  unfold Obligations.RotatesMoveBitsThroughCarry
  refine fun s =>
    ⟨rfl, exec_eq_next_of_after ?rlc, rfl, exec_eq_next_of_after ?rrc,
      rfl, exec_eq_next_of_after ?ral, rfl, exec_eq_next_of_after ?rar⟩
  case rlc => rw [Form.after_rlc, setCy_eq, shiftLeft_or_bitByte, getLsbD_seven_eq_decide]
  case rrc => rw [Form.after_rrc, setCy_eq, shiftRight_or_bitByte, getLsbD_zero_eq_decide]
  case ral => rw [Form.after_ral, setCy_eq, shiftLeft_or_bitByte, getLsbD_seven_eq_decide]
  case rar => rw [Form.after_rar, setCy_eq, shiftRight_or_bitByte, getLsbD_zero_eq_decide]

/-- Settles O25: the complement of a byte is its difference from 255, and CMC and STC write CY alone. -/
theorem complementAndCarryInstructions : Obligations.ComplementAndCarryInstructions := by
  unfold Obligations.ComplementAndCarryInstructions
  refine fun s =>
    ⟨rfl, exec_eq_next_of_after ?cma, rfl, exec_eq_next_of_after ?cmc, rfl, exec_eq_next_of_after ?stc⟩
  case cma => rw [Form.after_cma, not_eq_ofNat_sub]
  case cmc => rw [Form.after_cmc, setCy_eq]
  case stc => rw [Form.after_stc, setCy_eq]

end Sys2Proof
end

section
/-! The branch, call, return and restart instructions (44_branch.md R200 to R207): the opcode value of each row, and the whole next state, taken and not taken. -/

namespace Sys2Proof

open Machine

/-! ### The opcode values of the rules with operands -/

theorem encode_jcc (cond : Cond) (a16 : Word) :
    encode (Form.jcc cond a16).instr = [BitVec.ofNat 8 (192 + 8 * cond.code + 2), lo8 a16, hi8 a16] := by
  cases cond <;> rfl

theorem encode_ccc (cond : Cond) (a16 : Word) :
    encode (Form.ccc cond a16).instr = [BitVec.ofNat 8 (192 + 8 * cond.code + 4), lo8 a16, hi8 a16] := by
  cases cond <;> rfl

theorem encode_rcc (cond : Cond) :
    encode (Form.rcc cond).instr = [BitVec.ofNat 8 (192 + 8 * cond.code)] := by
  cases cond <;> rfl

theorem encode_rst (n : Fin 8) :
    encode (Form.rst n).instr = [BitVec.ofNat 8 (192 + 8 * n.val + 7)] := by
  revert n
  decide

/-! ### The pushed word -/

/-- The whole state after a push (10_state.md R31): the high byte's address is the old SP less 1. -/
theorem Machine.push_eq (s : State) (w : Word) :
    s.push w =
      { s with
        sp := s.sp - 2
        mem := (s.mem.write8 (s.sp - 2).toNat (lo8 w)).write8 (s.sp - 1).toNat (hi8 w)
        ab := s.sp - 1, db := hi8 w } := by
  rw [← sub_two_add_one s.sp]
  rfl

/-! ### The statements -/

/-- Settles O26: both jumps write PC alone, with a16 or with HL. -/
theorem jmpAndPchlSetPc : Obligations.JmpAndPchlSetPc := by
  unfold Obligations.JmpAndPchlSetPc
  exact fun a16 s =>
    ⟨rfl, exec_eq_next_of_after (Form.after_jmp s a16), rfl, exec_eq_next_of_after (Form.after_pchl s)⟩

/-- Settles O27: the condition table row by row, and a PC that the condition chooses. -/
theorem conditionalJumpsTestOneFlag : Obligations.ConditionalJumpsTestOneFlag := by
  unfold Obligations.ConditionalJumpsTestOneFlag
  refine ⟨?conditions, ?jumps⟩
  case conditions => exact fun f => ⟨rfl, rfl, rfl, rfl, rfl, rfl, rfl, rfl⟩
  case jumps =>
    exact fun cond a16 s => ⟨encode_jcc cond a16, exec_eq_next_of_after (Form.after_jcc s cond a16)⟩

/-- Settles O28: each is one push of PC and a new PC, which a conditional call makes when its condition holds. -/
theorem callsAndRestartsPushReturnAddress : Obligations.CallsAndRestartsPushReturnAddress := by
  unfold Obligations.CallsAndRestartsPushReturnAddress
  refine ⟨?call, ?restart, ?conditional⟩
  case call =>
    refine fun a16 s => ⟨rfl, _, exec_eq_after _ s, ?_⟩
    rw [Form.after_call, push_eq]
  case restart =>
    refine fun n s => ⟨encode_rst n, _, exec_eq_after _ s, ?_⟩
    rw [Form.after_rst, push_eq, restartVector]
  case conditional =>
    refine fun cond a16 s => ⟨encode_ccc cond a16, _, exec_eq_after _ s, ?_⟩
    rw [Form.after_ccc, push_eq]
    split
    case isTrue taken => rfl
    case isFalse notTaken => rfl

/-- Settles O29: the word at the old SP goes to PC, which a conditional return does when its condition holds. -/
theorem returnsPopPc : Obligations.ReturnsPopPc := by
  unfold Obligations.ReturnsPopPc
  refine ⟨?always, ?conditional⟩
  case always =>
    refine fun s => ⟨rfl, _, exec_eq_after _ s, ?_⟩
    rw [Form.after_ret]
  case conditional =>
    refine fun cond s => ⟨encode_rcc cond, _, exec_eq_after _ s, ?_⟩
    rw [Form.after_rcc]
    split
    case isTrue taken => rfl
    case isFalse notTaken => rfl

end Sys2Proof
end

section
/-! The stack instructions on register pairs, XTHL and SPHL (45_stack_io_control.md R230, R232, R234, R235): the opcode value of each row, and the whole next state. -/

namespace Sys2Proof.Machine

variable (s : State)

/-! ### The word on the stack as two bytes (10_state.md R31) -/

/-- The whole state after a push of two joined bytes: each goes to its own address. -/
theorem push_cat16 (h l : Byte) :
    s.push (cat16 h l) =
      { s with
        sp := s.sp - 2
        mem := (s.mem.write8 (s.sp - 2).toNat l).write8 (s.sp - 1).toNat h
        ab := s.sp - 1, db := h } := by
  rw [push_eq, hi8_cat16, lo8_cat16]

/-- The whole state after a pop: the read itself changes AB and DB alone. -/
theorem pop_state :
    s.pop.2 = { s with sp := s.sp + 2, ab := s.sp + 1, db := s.byteAt (s.sp + 1) } := rfl

/-! ### The pairs of PUSH and POP as two registers (30_encoding.md R84) -/

theorem getStackPair_bc : s.getStackPair .bc = cat16 s.b s.c := rfl
theorem getStackPair_de : s.getStackPair .de = cat16 s.d s.e := rfl
theorem getStackPair_hl : s.getStackPair .hl = cat16 s.h s.l := rfl

theorem setStackPair_bc_cat16 (h l : Byte) :
    s.setStackPair .bc (cat16 h l) = { s with b := h, c := l } := by
  simp only [State.setStackPair, State.setPair, hi8_cat16, lo8_cat16]

theorem setStackPair_de_cat16 (h l : Byte) :
    s.setStackPair .de (cat16 h l) = { s with d := h, e := l } := by
  simp only [State.setStackPair, State.setPair, hi8_cat16, lo8_cat16]

theorem setStackPair_hl_cat16 (h l : Byte) :
    s.setStackPair .hl (cat16 h l) = { s with h := h, l := l } := by
  simp only [State.setStackPair, State.setPair, State.setHl, hi8_cat16, lo8_cat16]

end Sys2Proof.Machine

namespace Sys2Proof

open Machine

/-! ### The opcode values of the rules with operands -/

theorem encode_push (p : StackPair) :
    encode (Form.push p).instr = [BitVec.ofNat 8 (192 + 16 * p.code + 5)] := by
  cases p <;> rfl

theorem encode_pop (p : StackPair) :
    encode (Form.pop p).instr = [BitVec.ofNat 8 (192 + 16 * p.code + 1)] := by
  cases p <;> rfl

/-! ### The statements -/

/-- Settles O30: the pushed word joins the pair's two registers, low one first in memory. -/
theorem pushWritesPairBelowSp : Obligations.PushWritesPairBelowSp := by
  unfold Obligations.PushWritesPairBelowSp
  refine fun p s => ⟨encode_push p, _, exec_eq_after _ s, ?_⟩
  rw [Form.after_push]
  cases p with
  | bc => rw [getStackPair_bc, push_cat16]
  | de => rw [getStackPair_de, push_cat16]
  | hl => rw [getStackPair_hl, push_cat16]

/-- Settles O31: the popped word joins the bytes at SP and SP + 1, and the pair write splits it again. -/
theorem popReadsPairAtSp : Obligations.PopReadsPairAtSp := by
  unfold Obligations.PopReadsPairAtSp
  refine fun s =>
    ⟨encode_pop, ⟨_, exec_eq_after _ s, ?bc⟩, ⟨_, exec_eq_after _ s, ?de⟩, ⟨_, exec_eq_after _ s, ?hl⟩⟩
  case bc => rw [Form.after_pop, pop_val, setStackPair_bc_cat16, pop_state]
  case de => rw [Form.after_pop, pop_val, setStackPair_de_cat16, pop_state]
  case hl => rw [Form.after_pop, pop_val, setStackPair_hl_cat16, pop_state]

/-- Settles O33: XTHL writes the old L and H where it read their new bytes, and SPHL writes SP alone. -/
theorem xthlAndSphl : Obligations.XthlAndSphl := by
  unfold Obligations.XthlAndSphl
  refine fun s =>
    ⟨rfl, ⟨_, exec_eq_after _ s, ?xthl⟩, rfl, exec_eq_next_of_after (Form.after_sphl s)⟩
  case xthl => rw [Form.after_xthl]

end Sys2Proof
end

section
/-! The undefined opcode values under `UNDEF_POLICY = intel_alias` (60_exceptions.md R253): the whole next state of each alias. -/

namespace Sys2Proof

open Machine

/-! ### The values that share an alias -/

section

variable (s : State) (intelPolicy : s.cfg.undefPolicy = .intelAlias)

include intelPolicy

/-- Every value but 0xCB, 0xD9, 0xDD, 0xED and 0xFD does nothing. -/
theorem Form.after_undef_aliasNop {u : UndefOp} (noOp : u ∈ [UndefOp.u08, .u10, .u18, .u20, .u28, .u30, .u38]) :
    (Form.undef u).after s = s := by
  rw [Form.after_undef_intel s u intelPolicy]
  fin_cases noOp <;> rfl

/-- A CALL fetches the two address bytes first, so the word it pushes is the address after them. -/
theorem Form.after_undef_aliasCall {u : UndefOp} (isCall : u ∈ [UndefOp.uDD, .uED, .uFD]) :
    (Form.undef u).after s = { s.fetch16.2.push (s.pc + 2) with pc := s.fetch16.1 } := by
  rw [Form.after_undef_intel s u intelPolicy]
  fin_cases isCall <;> rfl

end

/-! ### The statement -/

/-- Settles O37: the jump and the calls take their address from the two bytes they fetch, which changes PC, AB
and DB alone; the return is RET's own. -/
theorem undefinedOpcodeRunsIntelAlias : Obligations.UndefinedOpcodeRunsIntelAlias := by
  unfold Obligations.UndefinedOpcodeRunsIntelAlias
  intro s intelPolicy
  refine ⟨?nop, ⟨_, exec_eq_after _ s, ?jmp⟩, ⟨_, exec_eq_after _ s, ?ret⟩, ?call⟩
  case nop => exact fun u noOp => exec_eq_next_of_after (Form.after_undef_aliasNop s intelPolicy noOp)
  case jmp => rw [Form.after_undef_intel s .uCB intelPolicy, fetch16_state, fetch16_val]
  case ret => rw [Form.after_undef_intel s .uD9 intelPolicy, Form.after_ret]
  case call =>
    refine fun u isCall => ⟨_, exec_eq_after _ s, ?_⟩
    rw [Form.after_undef_aliasCall s intelPolicy isCall, push_eq, fetch16_state, fetch16_val]

end Sys2Proof
end

section
/-! Decoding as the inverse of encoding (30_encoding.md R80 to R92): the opcode byte as its fields, the bytes of what each group of the decoder answers, and the two round trips. -/

namespace Sys2Proof

open Machine

/-! ### The opcode byte as its fields (R82) -/

theorem Machine.fieldGg_val (op : Byte) : (fieldGg op).val = op.toNat / 64 := by
  have lt := op.isLt
  simp only [fieldGg, BitVec.val_toFin, BitVec.extractLsb'_toNat, Nat.shiftRight_eq_div_pow]
  omega

theorem Machine.fieldDdd_val (op : Byte) : (fieldDdd op).val = op.toNat / 8 % 8 := by
  simp only [fieldDdd, BitVec.val_toFin, BitVec.extractLsb'_toNat, Nat.shiftRight_eq_div_pow]

theorem Machine.fieldSss_val (op : Byte) : (fieldSss op).val = op.toNat % 8 := by
  simp only [fieldSss, BitVec.val_toFin, BitVec.extractLsb'_toNat, Nat.shiftRight_zero]

theorem Machine.fieldPp_val (op : Byte) : (fieldPp op).val = op.toNat / 16 % 4 := by
  simp only [fieldPp, BitVec.val_toFin, BitVec.extractLsb'_toNat, Nat.shiftRight_eq_div_pow]

theorem Machine.fieldQ_toNat (op : Byte) : (fieldQ op).toNat = op.toNat / 8 % 2 :=
  Nat.toNat_testBit op.toNat 3

/-- The byte is its major group and its two 3-bit fields. -/
theorem Machine.opcode_eq_fields (op : Byte) :
    op = BitVec.ofNat 8 (64 * (fieldGg op).val + 8 * (fieldDdd op).val + (fieldSss op).val) := by
  apply BitVec.eq_of_toNat_eq
  rw [fieldGg_val, fieldDdd_val, fieldSss_val, BitVec.toNat_ofNat]
  omega

/-- The pair field and `q` share the bits of the register field. -/
theorem Machine.fieldDdd_eq_pp_q (op : Byte) :
    (fieldDdd op).val = 2 * (fieldPp op).val + (fieldQ op).toNat := by
  rw [fieldDdd_val, fieldPp_val, fieldQ_toNat]
  omega

/-! ### An operand has the code that names it (R83 to R86) -/

theorem code_of_reg8Of_some {k : Fin 8} {r : Reg} (named : reg8Of k = some r) : r.code = k.val := by
  revert r k
  decide

theorem eq_six_of_reg8Of_none {k : Fin 8} (memory : reg8Of k = none) : k = 6 := by
  revert k
  decide

@[simp] theorem code_pairOf (k : Fin 4) : (pairOf k).code = k.val := by
  revert k
  decide

@[simp] theorem code_condOf (k : Fin 8) : (condOf k).code = k.val := by
  revert k
  decide

@[simp] theorem code_aluOpOf (k : Fin 8) : (aluOpOf k).code = k.val := by
  revert k
  decide

/-! ### What an opcode byte decodes to is encoded with that byte first -/

/-- The encodings of what an opcode byte decodes to begin with `op` and hold the immediate of the format. -/
def Decoded.EncodedWith (op : Byte) : Decoded → Prop
  | .op f => encode f.instr = [op]
  | .opD8 f => ∀ d8, encode (f d8).instr = [op, d8]
  | .opA16 f => ∀ w, encode (f w).instr = [op, lo8 w, hi8 w]

/-- What is encoded with a number that has the fields of an opcode byte is encoded with that byte. -/
theorem Decoded.encodedWith_of_fields {op : Byte} {d : Decoded} {n : Nat}
    (fields : n = 64 * (fieldGg op).val + 8 * (fieldDdd op).val + (fieldSss op).val)
    (encoded : d.EncodedWith (BitVec.ofNat 8 n)) : d.EncodedWith op := by
  rwa [fields, ← opcode_eq_fields] at encoded

section

variable (op : Byte)

/-- Group 00: a row without an operand field is known from the two 3-bit fields; each other rule is encoded
with the code of its operand. -/
theorem decodeGroup00_encodedWith (group : fieldGg op = 0) : (decodeGroup00 op).EncodedWith op := by
  have shared := fieldDdd_eq_pp_q op
  unfold decodeGroup00
  split
  case h_1 sss | h_8 sss =>
    split <;> (next ddd => exact Decoded.encodedWith_of_fields (by simp [group, sss, ddd]) rfl)
  case h_2 sss =>
    cases q : fieldQ op with
    | true =>
      exact Decoded.encodedWith_of_fields (by rw [code_pairOf, group, sss, shared, q, Bool.toNat_true]; omega)
        (encode_dad _)
    | false =>
      exact Decoded.encodedWith_of_fields (by rw [code_pairOf, group, sss, shared, q, Bool.toNat_false]; omega)
        (encode_lxi _)
  case h_3 sss =>
    split
    case h_1 ddd | h_2 ddd | h_3 ddd | h_4 ddd =>
      exact Decoded.encodedWith_of_fields (by simp [group, sss, ddd]) rfl
    case h_5 ddd | h_6 ddd | h_7 ddd | h_8 ddd =>
      exact Decoded.encodedWith_of_fields (by simp [group, sss, ddd]) fun _ => rfl
  case h_4 sss =>
    cases q : fieldQ op with
    | true =>
      exact Decoded.encodedWith_of_fields (by rw [code_pairOf, group, sss, shared, q, Bool.toNat_true]; omega)
        (encode_dcx _)
    | false =>
      exact Decoded.encodedWith_of_fields (by rw [code_pairOf, group, sss, shared, q, Bool.toNat_false]; omega)
        (encode_inx _)
  case h_5 sss =>
    split
    case h_1 r ddd =>
      exact Decoded.encodedWith_of_fields (by simp [group, sss, code_of_reg8Of_some ddd]) (encode_inrR r)
    case h_2 ddd =>
      exact Decoded.encodedWith_of_fields (by simp [group, sss, eq_six_of_reg8Of_none ddd]) rfl
  case h_6 sss =>
    split
    case h_1 r ddd =>
      exact Decoded.encodedWith_of_fields (by simp [group, sss, code_of_reg8Of_some ddd]) (encode_dcrR r)
    case h_2 ddd =>
      exact Decoded.encodedWith_of_fields (by simp [group, sss, eq_six_of_reg8Of_none ddd]) rfl
  case h_7 sss =>
    split
    case h_1 r ddd =>
      exact Decoded.encodedWith_of_fields (by simp [group, sss, code_of_reg8Of_some ddd]) (encode_mviR r)
    case h_2 ddd =>
      exact Decoded.encodedWith_of_fields (by simp [group, sss, eq_six_of_reg8Of_none ddd]) fun _ => rfl

/-- Group 01: both register fields have the codes of MOV's operands, and the one row with M twice is HLT. -/
theorem decodeGroup01_encodedWith (group : fieldGg op = 1) : (decodeGroup01 op).EncodedWith op := by
  unfold decodeGroup01
  split
  case h_1 dst src ddd sss =>
    exact Decoded.encodedWith_of_fields (by simp [group, code_of_reg8Of_some ddd, code_of_reg8Of_some sss])
      (encode_movRR dst src)
  case h_2 dst ddd sss =>
    exact Decoded.encodedWith_of_fields (by simp [group, code_of_reg8Of_some ddd, eq_six_of_reg8Of_none sss])
      (encode_movRM dst)
  case h_3 src ddd sss =>
    exact Decoded.encodedWith_of_fields (by simp [group, eq_six_of_reg8Of_none ddd, code_of_reg8Of_some sss])
      (encode_movMR src)
  case h_4 ddd sss =>
    exact Decoded.encodedWith_of_fields (by simp [group, eq_six_of_reg8Of_none ddd, eq_six_of_reg8Of_none sss]) rfl

/-- Group 10: the operation's code in the one field, the register's in the other. -/
theorem decodeGroup10_encodedWith (group : fieldGg op = 2) : (decodeGroup10 op).EncodedWith op := by
  unfold decodeGroup10
  split
  case h_1 src sss =>
    exact Decoded.encodedWith_of_fields (by simp [group, code_of_reg8Of_some sss]) (encode_aluR _ src)
  case h_2 sss =>
    exact Decoded.encodedWith_of_fields (by simp [group, eq_six_of_reg8Of_none sss]) (encode_aluM _)

/-- Group 11: as group 00, with a condition, an operation or a restart number in the operand field. -/
theorem decodeGroup11_encodedWith (group : fieldGg op = 3) : (decodeGroup11 op).EncodedWith op := by
  have shared := fieldDdd_eq_pp_q op
  unfold decodeGroup11
  split
  case h_1 sss => exact Decoded.encodedWith_of_fields (by simp [group, sss]) (encode_rcc _)
  case h_2 sss =>
    split <;> (next q pp => exact Decoded.encodedWith_of_fields (by simp [group, sss, shared, q, pp]) rfl)
  case h_3 sss => exact Decoded.encodedWith_of_fields (by simp [group, sss]) (encode_jcc _)
  case h_4 sss =>
    split
    case h_2 ddd | h_5 ddd | h_6 ddd | h_7 ddd | h_8 ddd =>
      exact Decoded.encodedWith_of_fields (by simp [group, sss, ddd]) rfl
    case h_1 ddd | h_3 ddd | h_4 ddd =>
      exact Decoded.encodedWith_of_fields (by simp [group, sss, ddd]) fun _ => rfl
  case h_5 sss => exact Decoded.encodedWith_of_fields (by simp [group, sss]) (encode_ccc _)
  case h_6 sss =>
    split
    case h_1 q pp | h_2 q pp | h_3 q pp | h_4 q pp | h_6 q pp | h_7 q pp | h_8 q pp =>
      exact Decoded.encodedWith_of_fields (by simp [group, sss, shared, q, pp]) rfl
    case h_5 q pp =>
      exact Decoded.encodedWith_of_fields (by simp [group, sss, shared, q, pp]) fun _ => rfl
  case h_7 sss => exact Decoded.encodedWith_of_fields (by simp [group, sss]) (encode_aluI _)
  case h_8 sss => exact Decoded.encodedWith_of_fields (by simp [group, sss]) (encode_rst _)

theorem decodeOpcode_encodedWith : (decodeOpcode op).EncodedWith op := by
  unfold decodeOpcode
  split
  case h_1 group => exact decodeGroup00_encodedWith op group
  case h_2 group => exact decodeGroup01_encodedWith op group
  case h_3 group => exact decodeGroup10_encodedWith op group
  case h_4 group => exact decodeGroup11_encodedWith op group

end

section

variable {op : Byte}

theorem encode_of_op {f : Form} (format : decodeOpcode op = .op f) : encode f.instr = [op] := by
  have encoded := decodeOpcode_encodedWith op
  rw [format] at encoded
  exact encoded

theorem encode_of_opD8 {f : Byte → Form} (format : decodeOpcode op = .opD8 f) (d8 : Byte) :
    encode (f d8).instr = [op, d8] := by
  have encoded := decodeOpcode_encodedWith op
  rw [format] at encoded
  exact encoded d8

theorem encode_of_opA16 {f : Word → Form} (format : decodeOpcode op = .opA16 f) (w : Word) :
    encode (f w).instr = [op, lo8 w, hi8 w] := by
  have encoded := decodeOpcode_encodedWith op
  rw [format] at encoded
  exact encoded w

end

/-! ### The decoder on a list of bytes, by format (R80, R81) -/

section

variable {op : Byte} {i : Instr} {rest : List Byte}

theorem decode_of_op {f : Form} (format : decodeOpcode op = .op f) (row : f.instr = i) :
    decode (op :: rest) = .ok (i, rest) := by
  simp only [decode, format, row]

theorem decode_of_opD8 {f : Byte → Form} {d8 : Byte} (format : decodeOpcode op = .opD8 f)
    (row : (f d8).instr = i) : decode (op :: d8 :: rest) = .ok (i, rest) := by
  simp only [decode, format, row]

theorem decode_of_opA16 {f : Word → Form} {w : Word} (format : decodeOpcode op = .opA16 f)
    (row : (f w).instr = i) : decode (op :: lo8 w :: hi8 w :: rest) = .ok (i, rest) := by
  simp only [decode, format, cat16_hi8_lo8, row]

end

/-- Everything a list of bytes that decodes can be: the opcode and, by its format, its immediate. -/
theorem decode_ok_cases {bytes rest : List Byte} {i : Instr} (h : decode bytes = .ok (i, rest)) :
    (∃ op f, decodeOpcode op = .op f ∧ bytes = op :: rest ∧ i = f.instr) ∨
    (∃ op f d8, decodeOpcode op = .opD8 f ∧ bytes = op :: d8 :: rest ∧ i = (f d8).instr) ∨
    (∃ op f w, decodeOpcode op = .opA16 f ∧ bytes = op :: lo8 w :: hi8 w :: rest ∧ i = (f w).instr) := by
  unfold decode at h
  split at h
  case h_1 => cases h
  case h_2 op tail =>
    split at h
    case h_1 f format => cases h; exact .inl ⟨op, f, format, rfl, rfl⟩
    case h_2 f d8 rest' format => cases h; exact .inr (.inl ⟨op, f, d8, format, rfl, rfl⟩)
    case h_4 f b1 b2 rest' format =>
      cases h
      exact .inr (.inr ⟨op, f, cat16 b2 b1, format, by simp, rfl⟩)
    case h_3 | h_5 | h_6 => cases h

/-! ### The round trips -/

/-- Each row's opcode decodes to its own format: with a word, with a byte, or with no immediate. -/
theorem decode_encode (i : Instr) (rest : List Byte) : decode (encode i ++ rest) = .ok (i, rest) := by
  cases i
  case lxiB | lxiD | lxiH | lxiSp | shld | lhld | sta | lda | jmp | call
      | jnz | jz | jnc | jc | jpo | jpe | jp | jm | cnz | cz | cnc | cc | cpo | cpe | cp | cm =>
    exact decode_of_opA16 rfl rfl
  case mviB | mviC | mviD | mviE | mviH | mviL | mviM | mviA
      | adi | aci | sui | sbi | ani | xri | ori | cpi | outPort | inPort =>
    exact decode_of_opD8 rfl rfl
  all_goals exact decode_of_op rfl rfl

/-- What an opcode byte decodes to is encoded with that byte and the immediate it was given. -/
theorem encode_of_decode {bytes rest : List Byte} {i : Instr} (h : decode bytes = .ok (i, rest)) :
    encode i ++ rest = bytes := by
  obtain ⟨op, f, format, rfl, rfl⟩ | ⟨op, f, d8, format, rfl, rfl⟩ | ⟨op, f, w, format, rfl, rfl⟩ :=
    decode_ok_cases h
  · rw [encode_of_op format, List.singleton_append]
  · rw [encode_of_opD8 format, List.cons_append, List.singleton_append]
  · rw [encode_of_opA16 format, List.cons_append, List.cons_append, List.singleton_append]

/-- Settles O38: one way by the format of each row, the other by the fields of the opcode byte. -/
theorem decodeAndEncodeAreInverse : Obligations.DecodeAndEncodeAreInverse := by
  unfold Obligations.DecodeAndEncodeAreInverse
  exact ⟨decode_encode, fun _ _ _ => encode_of_decode⟩

end Sys2Proof
end

section
/-! The length of an instruction, the undefined opcode values and the step that runs what the bytes at PC decode to (30_encoding.md R80, R81, R87, R89). -/

namespace Sys2Proof

open Machine

/-! ### Lengths (R80) -/

/-- The number of bytes of the format that an opcode byte decides. -/
def Decoded.length : Decoded → Nat
  | .op _ => 1
  | .opD8 _ => 2
  | .opA16 _ => 3

section

variable {op : Byte}

theorem length_of_op {f : Form} (format : decodeOpcode op = .op f) : f.instr.length = 1 := by
  rw [Instr.length, encode_of_op format, List.length_singleton]

theorem length_of_opD8 {f : Byte → Form} (format : decodeOpcode op = .opD8 f) (d8 : Byte) :
    (f d8).instr.length = 2 := by
  rw [Instr.length, encode_of_opD8 format]
  rfl

theorem length_of_opA16 {f : Word → Form} (format : decodeOpcode op = .opA16 f) (w : Word) :
    (f w).instr.length = 3 := by
  rw [Instr.length, encode_of_opA16 format]
  rfl

/-- The length is that of the opcode's format. -/
theorem length_of_decode {tail rest : List Byte} {i : Instr} (h : decode (op :: tail) = .ok (i, rest)) :
    i.length = (decodeOpcode op).length := by
  obtain ⟨_, f, format, bytes, rfl⟩ | ⟨_, f, d8, format, bytes, rfl⟩ | ⟨_, f, w, format, bytes, rfl⟩ :=
    decode_ok_cases h <;> obtain ⟨rfl, -⟩ := List.cons.inj bytes
  · rw [length_of_op format, format, Decoded.length]
  · rw [length_of_opD8 format, format, Decoded.length]
  · rw [length_of_opA16 format, format, Decoded.length]

end

theorem Decoded.length_bounds (d : Decoded) : 1 ≤ d.length ∧ d.length ≤ 3 := by
  cases d <;> simp [Decoded.length]

/-- Three bytes hold any instruction. -/
theorem exists_decode_of_three (op b1 b2 : Byte) (tail : List Byte) :
    ∃ i rest, decode (op :: b1 :: b2 :: tail) = .ok (i, rest) := by
  cases format : decodeOpcode op with
  | op f => exact ⟨_, _, decode_of_op format rfl⟩
  | opD8 f => exact ⟨_, _, decode_of_opD8 format rfl⟩
  | opA16 f =>
    refine ⟨(f (cat16 b2 b1)).instr, tail, ?_⟩
    simp only [decode, format]

theorem length_lt_three_of_decode_error {bytes : List Byte} {e : DecodeError} (h : decode bytes = .error e) :
    bytes.length < 3 := by
  match bytes with
  | [] | [_] | [_, _] => simp
  | op :: b1 :: b2 :: tail =>
    obtain ⟨i, rest, ok⟩ := exists_decode_of_three op b1 b2 tail
    rw [ok] at h
    cases h

/-! ### The undefined values (R89) -/

theorem decodeOpcode_undefOp (u : UndefOp) : decodeOpcode u.byte = .op (.undef u) := by
  cases u <;> rfl

theorem encode_undef (u : UndefOp) : encode (Form.undef u).instr = [u.byte] := by
  cases u <;> rfl

theorem mem_undefinedOpcodes_iff (op : Byte) : op ∈ undefinedOpcodes ↔ ∃ u : UndefOp, u.byte = op := by
  constructor
  · intro listed
    fin_cases listed
    exacts [⟨.u08, rfl⟩, ⟨.u10, rfl⟩, ⟨.u18, rfl⟩, ⟨.u20, rfl⟩, ⟨.u28, rfl⟩, ⟨.u30, rfl⟩, ⟨.u38, rfl⟩,
      ⟨.uCB, rfl⟩, ⟨.uD9, rfl⟩, ⟨.uDD, rfl⟩, ⟨.uED, rfl⟩, ⟨.uFD, rfl⟩]
  · rintro ⟨u, rfl⟩
    cases u <;> decide

/-- Only the rows of the undefined values are refused. -/
theorem wellFormed_eq_false_iff (i : Instr) : i.wellFormed = false ↔ ∃ u : UndefOp, i.form = .undef u := by
  cases i
  case undef08 | undef10 | undef18 | undef20 | undef28 | undef30 | undef38
      | undefCB | undefD9 | undefDD | undefED | undefFD =>
    exact iff_of_true rfl ⟨_, rfl⟩
  all_goals exact iff_of_false Bool.true_eq_false.mp fun ⟨_, undefined⟩ => Form.noConfusion undefined

/-- An opcode byte stands for an undefined row exactly when it is one of the twelve values. -/
theorem form_undef_iff_of_decode {op : Byte} {tail rest : List Byte} {i : Instr}
    (h : decode (op :: tail) = .ok (i, rest)) : (∃ u : UndefOp, i.form = .undef u) ↔ op ∈ undefinedOpcodes := by
  rw [mem_undefinedOpcodes_iff]
  constructor
  · rintro ⟨u, undefined⟩
    have bytes := encode_of_decode h
    rw [← i.instr_form, undefined, encode_undef] at bytes
    exact ⟨u, (List.cons.inj bytes).1⟩
  · rintro ⟨u, rfl⟩
    rw [decode_of_op (decodeOpcode_undefOp u) rfl] at h
    cases h
    exact ⟨u, Form.form_instr _⟩

/-- Settles O39: the format of the opcode gives the length, and the rows of the undefined values, one byte
long, decode from no other bytes. -/
theorem lengthAndDefinednessOfTheOpcode : Obligations.LengthAndDefinednessOfTheOpcode := by
  unfold Obligations.LengthAndDefinednessOfTheOpcode
  refine ⟨?sameOpcode, ?threeBytes, ?oneByte, ?twoBytes, rfl, fun _ _ => length_lt_three_of_decode_error, ?undefined,
    rfl, ?nodup⟩
  case sameOpcode =>
    intro op b1 b2 b1' b2' i i' rest rest' h h'
    rw [length_of_decode h, length_of_decode h']
  case threeBytes =>
    intro op b1 b2
    obtain ⟨i, rest, h⟩ := exists_decode_of_three op b1 b2 []
    exact ⟨i, rest, h, length_of_decode h ▸ Decoded.length_bounds _⟩
  case oneByte => rfl
  case twoBytes => rfl
  case undefined =>
    intro op b1 b2 i rest h
    rw [wellFormed_eq_false_iff, form_undef_iff_of_decode h]
  case nodup => decide

/-- Settles O40: each word's fields are read off by evaluation. -/
theorem specWordsDecodeToTheirInstructions : Obligations.SpecWordsDecodeToTheirInstructions := by
  unfold Obligations.SpecWordsDecodeToTheirInstructions
  exact ⟨rfl, rfl, rfl, rfl, rfl, rfl, rfl, rfl, rfl, rfl, rfl, rfl, rfl, rfl, rfl, rfl⟩

/-! ### The step of a running state (R87, R287) -/

/-- The state in which an instruction of the given length at PC runs: its bytes fetched, PC past them. -/
def Machine.State.fetched (s : State) (n : Nat) : State :=
  { s with
    pc := s.pc + BitVec.ofNat 16 n
    ir := s.byteAt s.pc
    ab := s.pc + BitVec.ofNat 16 n - 1
    db := s.byteAt (s.pc + BitVec.ofNat 16 n - 1) }

/-- The fetch is the decoder on the bytes at PC, and the bus shows the last byte it took. -/
theorem Machine.fetchInstr_eq_fetched {s : State} {i : Instr} {rest : List Byte}
    (h : decode s.bytesAtPc = .ok (i, rest)) : s.fetchInstr = (i, s.fetched i.length) := by
  unfold State.fetched
  cases format : decodeOpcode (s.byteAt s.pc) with
  | op f =>
    simp only [State.bytesAtPc, decode, format] at h
    cases h
    have past : s.pc + BitVec.ofNat 16 1 = s.pc + 1 := rfl
    have last : s.pc + 1 - 1 = s.pc := by bv_omega
    rw [length_of_op format, past, last, fetchInstr_of_op s f format, fetchOpcode_state]
  | opD8 f =>
    simp only [State.bytesAtPc, decode, format] at h
    cases h
    have past : s.pc + BitVec.ofNat 16 2 = s.pc + 1 + 1 := (add_one_one s.pc).symm
    have last : s.pc + 1 + 1 - 1 = s.pc + 1 := by bv_omega
    rw [length_of_opD8 format, past, last, fetchInstr_of_opD8 s f format, fetch8_state, fetchOpcode_state]
    rfl
  | opA16 f =>
    simp only [State.bytesAtPc, decode, format] at h
    cases h
    have past : s.pc + BitVec.ofNat 16 3 = s.pc + 2 + 1 := by bv_omega
    have last : s.pc + 2 + 1 - 1 = s.pc + 2 := by bv_omega
    rw [length_of_opA16 format, past, last, fetchInstr_of_opA16 s f format, fetch16_state, fetchOpcode_state,
      ← add_one_one]
    rfl

/-- Settles O41: the fetch decodes the three bytes at PC, which hold any instruction. -/
theorem stepRunsTheDecodedInstruction : Obligations.StepRunsTheDecodedInstruction := by
  unfold Obligations.StepRunsTheDecodedInstruction
  refine ⟨fun s => exists_decode_of_three _ _ _ [], ?step⟩
  case step =>
    rintro s i rest ⟨noFault, notHalted⟩ h
    rw [step_of_running s noFault notHalted, fetchInstr_eq_fetched h]
    rfl

end Sys2Proof
end

section
/-! What instructions and host interactions do to memory (20_memory.md R50 to R61): every rule's effect as a sequence of byte stores at the addresses of the rule's footprint, and the canonical form. -/

namespace Sys2Proof.Machine

/-! ### Sequences of byte stores -/

/-- `m'` is `m` after one byte store at each of the addresses, in that order. -/
inductive Memory.StoredAt : List Word → Memory → Memory → Prop where
  | done (m : Memory) : StoredAt [] m m
  | store {x : Word} {xs : List Word} {m m' : Memory} (v : Byte) (rest : StoredAt xs (m.write8 x.toNat v) m') :
    StoredAt (x :: xs) m m'

theorem Memory.storedAt_nil {m m' : Memory} (same : m' = m) : Memory.StoredAt [] m m' := same ▸ .done m

theorem Memory.storedAt_byte (m : Memory) (x : Word) (v : Byte) :
    Memory.StoredAt [x] m (m.write8 x.toNat v) := .store v (.done _)

theorem Memory.storedAt_word (m : Memory) (x : Word) (v w : Byte) :
    Memory.StoredAt (wordBytes x) m ((m.write8 x.toNat v).write8 (x + 1).toNat w) := .store v (.store w (.done _))

/-- Stores keep the canonical form. -/
theorem Memory.StoredAt.wf {xs : List Word} {m m' : Memory} (stores : Memory.StoredAt xs m m') (canonical : m.wf) :
    m'.wf := by
  induction stores with
  | done => exact canonical
  | store v _ ih => exact ih (Memory.write8_wf _ _ v canonical)

/-- Stores are seen at their addresses alone. -/
theorem Memory.StoredAt.read8_of_notMem {xs : List Word} {m m' : Memory} (stores : Memory.StoredAt xs m m')
    {y : Word} (apart : y ∉ xs) : m'.read8 y.toNat = m.read8 y.toNat := by
  induction stores with
  | done => rfl
  | store v _ ih =>
    rw [List.mem_cons, not_or] at apart
    obtain ⟨ne, rest⟩ := apart
    rw [ih rest, Memory.read8_write8_ne _ _ _ _ ne]

end Sys2Proof.Machine

namespace Sys2Proof

open Machine

/-! ### Every rule's effect on memory (R61) -/

/-- The call aliases push like CALL, and no other undefined value stores. -/
theorem Form.after_undef_storedAt (u : UndefOp) (s : State) :
    Memory.StoredAt ((Form.undef u).storedAt s) s.mem ((Form.undef u).after s).mem := by
  cases policy : s.cfg.undefPolicy with
  | fault =>
    rw [Form.after_undef_fault s u policy, raiseUndefined_mem]
    cases u <;> simp only [Form.storedAt, policy] <;> exact .done _
  | intelAlias =>
    rw [Form.after_undef_intel s u policy]
    cases u
    case uDD | uED | uFD =>
      simp only [Form.storedAt, policy, ↓reduceIte, push_mem, fetch16_mem, fetch16_sp]
      exact Memory.storedAt_word _ _ _ _
    all_goals exact .done _

/-- A rule changes memory by stores at the addresses of its footprint. -/
theorem Form.after_storedAt (f : Form) (s : State) : Memory.StoredAt (f.storedAt s) s.mem (f.after s).mem := by
  cases f
  case movMR | mviM | inrM | dcrM | sta | stax => exact Memory.storedAt_byte _ _ _
  case shld | xthl =>
    simp only [Form.after_shld, Form.after_xthl]
    exact Memory.storedAt_word _ _ _ _
  case push | pushPsw | call | rst => exact Memory.storedAt_word _ _ _ _
  case ccc cond a16 =>
    rw [Form.after_ccc, Form.storedAt]
    split
    case isTrue taken => exact Memory.storedAt_word _ _ _ _
    case isFalse notTaken => exact .done _
  case undef u => exact Form.after_undef_storedAt u s
  all_goals exact Memory.storedAt_nil (by simp [apply_ite State.mem])

/-- Settles O49: a read at an address apart from the footprint sees none of the stores. -/
theorem memoryFrame : Obligations.MemoryFrame := by
  unfold Obligations.MemoryFrame
  exact fun f s => ⟨_, exec_eq_after f s, fun _ apart => (Form.after_storedAt f s).read8_of_notMem apart⟩

/-! ### The canonical form as an invariant -/

theorem Machine.fetchInstr_mem (s : State) : s.fetchInstr.2.mem = s.mem := by
  obtain ⟨p, x, v, fetched⟩ := fetchInstr_frame s
  rw [fetched]

theorem Machine.step_mem_wf {s t : State} (canonical : s.mem.wf) (h : step s = .next t) : t.mem.wf := by
  obtain ⟨-, -, rfl⟩ | ⟨-, -, rfl⟩ := step_next_cases s t h
  · exact canonical
  · refine (Form.after_storedAt _ _).wf ?_
    rw [fetchInstr_mem]
    exact canonical

theorem Machine.hostDo_mem_wf {s : State} (op : HostOp) (canonical : s.mem.wf) : (s.hostDo op).mem.wf := by
  cases op with
  | reset | examine | examineNext => exact canonical
  | deposit | depositNext => exact Memory.write8_wf _ _ _ canonical
  | loadImage address bytes => exact placeBytes_wf bytes _ address canonical

/-- Settles O48: the effect of a step on memory is a sequence of stores, and so is that of a host interaction. -/
theorem memoryStaysCanonical : Obligations.MemoryStaysCanonical := by
  unfold Obligations.MemoryStaysCanonical
  exact ⟨fun _ _ => step_mem_wf, fun _ op => hostDo_mem_wf op⟩

/-! ### Reading back (R52 to R55) -/

section

variable {s : State} (canonical : s.mem.wf)

include canonical

theorem Machine.memWrite1_byteAt (x y : Word) (v : Byte) :
    (s.memWrite1 x v).byteAt y = if y = x then v else s.byteAt y :=
  Memory.read8_write8 s.mem canonical x y v

/-- The two addresses of a word differ, so the second store keeps the first byte. -/
theorem Machine.memWrite2_byteAt (x y w : Word) :
    (s.memWrite2 x w).byteAt y = if y = x then lo8 w else if y = x + 1 then hi8 w else s.byteAt y := by
  have apart : x ≠ x + 1 := by bv_omega
  have canonical' : (s.memWrite1 x (lo8 w)).mem.wf := Memory.write8_wf _ _ _ canonical
  rw [State.memWrite2, memWrite1_byteAt canonical', memWrite1_byteAt canonical]
  by_cases low : y = x
  · rw [low, if_neg apart, if_pos rfl, if_pos rfl]
  · rw [if_neg low, if_neg low]

theorem Machine.memRead2_memWrite2 (x w : Word) : ((s.memWrite2 x w).memRead2 x).1 = w := by
  have apart : x + 1 ≠ x := by bv_omega
  rw [memRead2_val, memWrite2_byteAt canonical, memWrite2_byteAt canonical, if_neg apart, if_pos rfl, if_pos rfl,
    cat16_hi8_lo8]

end

/-- Settles O46: a word access is two byte accesses at two different addresses. -/
theorem memoryReadsBackWhatWasWritten : Obligations.MemoryReadsBackWhatWasWritten := by
  unfold Obligations.MemoryReadsBackWhatWasWritten
  exact fun s x y w v canonical =>
    ⟨memWrite1_byteAt canonical x y v, memWrite2_byteAt canonical x y w, memRead2_memWrite2 canonical x w,
      memRead2_val s x⟩

/-! ### Canonical memories are determined by what they read -/

/-- In a rising list no earlier cell hides a later one. -/
theorem Machine.Memory.lookup_of_mem {m : Memory} (rising : m.Pairwise fun x y : Host.Cell => x.1 < y.1)
    {c : Host.Cell} (listed : c ∈ m) : m.lookup c.1 = c.2 := by
  induction m with
  | nil => cases listed
  | cons d rest ih =>
    obtain ⟨first, restRising⟩ := List.pairwise_cons.mp rising
    obtain rfl | later := List.mem_cons.mp listed
    · exact if_pos rfl
    · exact (if_neg (first c later).ne).trans (ih restRising later)

theorem Machine.Memory.mem_of_lookup_ne {m : Memory} {x : Nat} (read : m.lookup x ≠ Memory.unlisted) :
    (x, m.lookup x) ∈ m := by
  induction m with
  | nil => exact absurd rfl read
  | cons d rest ih =>
    obtain ⟨k, v⟩ := d
    rw [Memory.lookup] at read ⊢
    split at read
    case isTrue here => rw [if_pos here, here]; exact List.mem_cons_self
    case isFalse there => rw [if_neg there]; exact List.mem_cons_of_mem _ (ih read)

/-- A canonical memory lists exactly the addresses that do not read as an unlisted byte, each with its byte. -/
theorem Machine.Memory.mem_iff_lookup {m : Memory} (canonical : m.wf) (c : Host.Cell) :
    c ∈ m ↔ c.1 < 65536 ∧ c.2 ≠ Memory.unlisted ∧ m.lookup c.1 = c.2 := by
  obtain ⟨rising, cells⟩ := canonical
  constructor
  · intro listed
    exact ⟨(cells c listed).1, (cells c listed).2, Memory.lookup_of_mem rising listed⟩
  · rintro ⟨-, written, read⟩
    rw [← read] at written
    have listed := Memory.mem_of_lookup_ne written
    rwa [read] at listed

/-- Settles O47: both lists hold the same cells, in the order of their addresses. -/
theorem canonicalMemoriesThatReadAlikeAreEqual : Obligations.CanonicalMemoriesThatReadAlikeAreEqual := by
  unfold Obligations.CanonicalMemoriesThatReadAlikeAreEqual
  intro m m' canonical canonical' alike
  have : Std.Irrefl fun x y : Host.Cell => x.1 < y.1 := ⟨fun x => Nat.lt_irrefl x.1⟩
  have : Std.Antisymm fun x y : Host.Cell => x.1 < y.1 := ⟨fun x y h h' => absurd h (Nat.lt_asymm h')⟩
  refine canonical.1.eq_of_mem_iff canonical'.1 fun c => ?_
  rw [Memory.mem_iff_lookup canonical, Memory.mem_iff_lookup canonical']
  refine and_congr_right fun below => ?_
  have read := alike (BitVec.ofNat 16 c.1)
  rw [BitVec.toNat_ofNat, Nat.mod_eq_of_lt below, Memory.read8, Memory.read8, if_pos below, if_pos below] at read
  rw [read]

end Sys2Proof
end

section
/-! Reset, the panel operations and image loading (10_state.md R40, 70_reset_and_hazards.md R280 to R295). -/

namespace Sys2Proof.Machine

/-! ### Depositing a row of bytes (R291) -/

variable (s : State)

theorem foldl_depositNext_mem (bytes : List Byte) :
    (bytes.foldl State.depositNext s).mem = placeBytes s.mem s.ab bytes := by
  induction bytes generalizing s with
  | nil => rfl
  | cons v rest ih => exact ih (s.depositNext v)

theorem foldl_depositNext_pc (bytes : List Byte) : (bytes.foldl State.depositNext s).pc = s.pc := by
  induction bytes generalizing s with
  | nil => rfl
  | cons v rest ih => exact ih (s.depositNext v)

/-! ### Examining a row of bytes (R292, R293) -/

/-- Stepping on by `examine_next` is examining the address reached. -/
theorem iterate_examineNext_examine (address : Word) (k : Nat) :
    State.examineNext^[k] (s.examine address false) = s.examine (address + BitVec.ofNat 16 k) false := by
  induction k with
  | zero => rw [Function.iterate_zero_apply, BitVec.add_zero]
  | succ k ih =>
    have next : address + BitVec.ofNat 16 (k + 1) = address + BitVec.ofNat 16 k + 1 := by bv_omega
    rw [Function.iterate_succ_apply', ih, next]
    rfl

theorem examine_db (address : Word) (setEntry : Bool) : (s.examine address setEntry).db = s.byteAt address := rfl

theorem examine_pc (address : Word) : (s.examine address false).pc = s.pc := rfl

/-! ### What a placed row of bytes reads -/

theorem placeBytes_read8_of_ne (bytes : List Byte) (m : Memory) (x y : Word)
    (apart : ∀ k < bytes.length, y ≠ x + BitVec.ofNat 16 k) :
    (placeBytes m x bytes).read8 y.toNat = m.read8 y.toNat := by
  induction bytes generalizing m x with
  | nil => rfl
  | cons v rest ih =>
    have notFirst : y ≠ x := by simpa using apart 0
    rw [placeBytes, ih, Memory.read8_write8_ne _ _ _ _ notFirst]
    intro k lt
    have next : x + 1 + BitVec.ofNat 16 k = x + BitVec.ofNat 16 (k + 1) := by bv_omega
    rw [next]
    exact apart (k + 1) (Nat.succ_lt_succ lt)

/-- A row of at most 65536 bytes does not come round to its own beginning. -/
theorem placeBytes_read8 (bytes : List Byte) {m : Memory} (x : Word) (canonical : m.wf)
    (fits : bytes.length ≤ 65536) (k : Nat) (lt : k < bytes.length) :
    (placeBytes m x bytes).read8 (x + BitVec.ofNat 16 k).toNat = bytes[k] := by
  induction bytes generalizing m x k with
  | nil => cases lt
  | cons v rest ih =>
    rw [List.length_cons] at fits
    cases k with
    | zero =>
      have apart : ∀ j < rest.length, x + BitVec.ofNat 16 0 ≠ x + 1 + BitVec.ofNat 16 j := by
        intro j lt
        bv_omega
      rw [placeBytes, placeBytes_read8_of_ne _ _ _ _ apart, BitVec.add_zero,
        Memory.read8_write8 m canonical, if_pos rfl, List.getElem_cons_zero]
    | succ k =>
      have next : x + BitVec.ofNat 16 (k + 1) = x + 1 + BitVec.ofNat 16 k := by bv_omega
      rw [placeBytes, next, List.getElem_cons_succ]
      exact ih (x + 1) (Memory.write8_wf _ _ _ canonical) (by omega) k (Nat.lt_of_succ_lt_succ lt)

end Sys2Proof.Machine

namespace Sys2Proof

open Machine

/-- Settles O60: the deposits place the bytes in a row, and stepping k times examines the k-th address of it. -/
theorem examineShowsWhatWasDeposited : Obligations.ExamineShowsWhatWasDeposited := by
  unfold Obligations.ExamineShowsWhatWasDeposited
  intro s address bytes canonical fits t k lt
  rw [iterate_examineNext_examine, examine_db, examine_pc, State.byteAt, foldl_depositNext_mem, foldl_depositNext_pc]
  exact ⟨placeBytes_read8 bytes address canonical fits k lt, examine_pc s address⟩

/-- Settles O1: the reset record, with the three kept fields put in. -/
theorem resetGivesEveryFieldItsValue : Obligations.ResetGivesEveryFieldItsValue := by
  unfold Obligations.ResetGivesEveryFieldItsValue
  exact ⟨fun _ => rfl, rfl, rfl⟩

/-- Neither FAULT nor HALTED is set after a reset, so the control invariant asks nothing of it. -/
theorem controlInv_hostReset (s : State) : ControlInv s.hostReset :=
  ⟨nofun, nofun, nofun, nofun, nofun⟩

/-- Settles O56: nothing is listed, marked or halted at reset. -/
theorem resetMeetsTheInvariants : Obligations.ResetMeetsTheInvariants := by
  unfold Obligations.ResetMeetsTheInvariants
  exact ⟨⟨.nil, nofun⟩, ⟨nofun, nofun, nofun, nofun, nofun⟩, controlInv_hostReset⟩

/-- Settles O58: each panel operation is one bus access. -/
theorem panelOperations : Obligations.PanelOperations := by
  unfold Obligations.PanelOperations
  exact fun s data address => ⟨rfl, rfl, rfl, rfl, rfl⟩

/-- Settles O59: by the six host interactions, of which only examine writes PC. -/
theorem hostInteractionsLeaveRegistersAlone : Obligations.HostInteractionsLeaveRegistersAlone := by
  unfold Obligations.HostInteractionsLeaveRegistersAlone
  intro s op notReset
  cases op with
  | reset => exact absurd rfl notReset
  | deposit | depositNext | examineNext => exact ⟨⟨_, _, _, _, rfl⟩, fun _ => rfl, nofun⟩
  | examine address setEntry =>
    refine ⟨⟨_, _, _, _, rfl⟩, fun noEntry => ?_, nofun⟩
    cases setEntry with
    | false => exact examine_pc s address
    | true => exact absurd rfl (noEntry address)
  | loadImage address bytes => exact ⟨⟨_, _, _, _, rfl⟩, fun _ => rfl, fun _ _ _ => ⟨_, rfl⟩⟩

end Sys2Proof
end

section
/-! What each rule leaves unchanged (10_state.md R29 to R38): the fields of control, the flags, the registers and SP. -/

namespace Sys2Proof

open Machine

variable (f : Form) (s : State)

/-! ### The undefined values (R252, R253) -/

/-- An Intel alias is a no-operation, a jump, a call or a return: it writes PC, SP, the bus and memory alone. -/
theorem Form.after_undef_intel_frame (u : UndefOp) (policy : s.cfg.undefPolicy = .intelAlias) :
    ∃ p q x v m, (Form.undef u).after s = { s with pc := p, sp := q, ab := x, db := v, mem := m } := by
  rw [Form.after_undef_intel s u policy]
  cases u
  case uD9 => exact ⟨_, _, _, _, _, Form.after_ret s⟩
  case uCB | uDD | uED | uFD =>
    simp only [push_eq, fetch16_state]
    exact ⟨_, _, _, _, _, rfl⟩
  all_goals exact ⟨_, _, _, _, _, rfl⟩

/-- Under either policy an undefined value writes no register, no flag, and no field of control but FAULT. -/
theorem Form.after_undef_frame (u : UndefOp) :
    ∃ p q x v m k, (Form.undef u).after s = { s with pc := p, sp := q, ab := x, db := v, mem := m, faultMark := k } := by
  cases policy : s.cfg.undefPolicy with
  | fault => exact ⟨_, _, _, _, _, _, Form.after_undef_fault s u policy⟩
  | intelAlias =>
    obtain ⟨p, q, x, v, m, frame⟩ := Form.after_undef_intel_frame s u policy
    exact ⟨p, q, x, v, m, _, frame⟩

/-! ### The fields of control (R30, R33, R34, R37, R38) -/

/-- No rule writes IR or the parameters; EI and DI write INTE, and HLT writes HALTED. -/
theorem Form.after_control :
    (f.after s).ir = s.ir ∧ (f.after s).cfg = s.cfg ∧
    (f.after s).inte = (if f = .ei then true else if f = .di then false else s.inte) ∧
    (f.after s).halted = (if f = .hlt then true else s.halted) := by
  cases f
  case undef u =>
    obtain ⟨p, q, x, v, m, k, frame⟩ := Form.after_undef_frame s u
    rw [frame]
    exact ⟨rfl, rfl, rfl, rfl⟩
  all_goals
    simp [apply_ite State.ir, apply_ite State.cfg, apply_ite State.inte, apply_ite State.halted]

theorem Form.after_ir : (f.after s).ir = s.ir := by
  obtain ⟨ir, -⟩ := Form.after_control f s
  exact ir

theorem Form.after_cfg : (f.after s).cfg = s.cfg := by
  obtain ⟨-, cfg, -⟩ := Form.after_control f s
  exact cfg

theorem Form.after_inte :
    (f.after s).inte = if f = .ei then true else if f = .di then false else s.inte := by
  obtain ⟨-, -, inte, -⟩ := Form.after_control f s
  exact inte

theorem Form.after_halted : (f.after s).halted = if f = .hlt then true else s.halted := by
  obtain ⟨-, -, -, halted⟩ := Form.after_control f s
  exact halted

theorem Form.after_faultMark_kept (noFault : ∀ u, f = .undef u → s.cfg.undefPolicy ≠ .fault) :
    (f.after s).faultMark = s.faultMark := by
  cases f
  case undef u =>
    cases policy : s.cfg.undefPolicy with
    | fault => exact absurd policy (noFault u rfl)
    | intelAlias =>
      obtain ⟨p, q, x, v, m, frame⟩ := Form.after_undef_intel_frame s u policy
      rw [frame]
  all_goals simp [apply_ite State.faultMark]

theorem Form.after_io_kept (noInput : ∀ p, f ≠ .inPort p) (noOutput : ∀ p, f ≠ .outPort p) :
    (f.after s).io = s.io := by
  cases f
  case inPort p => exact absurd rfl (noInput p)
  case outPort p => exact absurd rfl (noOutput p)
  case undef u =>
    obtain ⟨p, q, x, v, m, k, frame⟩ := Form.after_undef_frame s u
    rw [frame]
  all_goals simp [apply_ite State.io]

/-- Settles O52: each field of control has its writers, and no other rule reaches it. -/
theorem controlFrame : Obligations.ControlFrame := by
  unfold Obligations.ControlFrame
  refine fun f s => ⟨_, exec_eq_after f s, fun notEi notDi => ?inte, fun notHlt => ?halted,
    Form.after_faultMark_kept f s, Form.after_io_kept f s, Form.after_ir f s, Form.after_cfg f s⟩
  case inte => rw [Form.after_inte, if_neg notEi, if_neg notDi]
  case halted => rw [Form.after_halted, if_neg notHlt]

/-! ### The flags (R29) -/

/-- Settles O50: by the rules, each of which writes the flags whole, CY alone, all but CY, or none. -/
theorem flagFrame : Obligations.FlagFrame := by
  unfold Obligations.FlagFrame
  refine fun f s => ⟨_, exec_eq_after f s, ?_⟩
  cases f
  case inrR | inrM | dcrR | dcrM => simp [Form.flagsWritten, inc8, dec8, flagsOf]
  case undef u =>
    obtain ⟨p, q, x, v, m, k, frame⟩ := Form.after_undef_frame s u
    rw [frame]
    rfl
  all_goals simp [Form.flagsWritten, apply_ite State.flags]

/-! ### The registers and SP (R21, R31) -/

section

variable (r : Reg)

theorem Machine.getReg_setReg_of_notMem {dst : Reg} (v : Byte) (notWritten : r ∉ [dst]) :
    (s.setReg dst v).getReg r = s.getReg r := by
  rw [List.mem_singleton] at notWritten
  rw [getReg_setReg, if_neg notWritten]

theorem Machine.getReg_setReg_setReg_of_notMem {high low : Reg} (v w : Byte) (notWritten : r ∉ [high, low]) :
    ((s.setReg high v).setReg low w).getReg r = s.getReg r := by
  rw [List.mem_cons, not_or] at notWritten
  obtain ⟨notHigh, notLow⟩ := notWritten
  rw [getReg_setReg_of_notMem _ r w notLow, getReg_setReg, if_neg notHigh]

/-- A pair write is the write of its two registers, and SP is none of the seven. -/
theorem Machine.getReg_setPair_of_notMem (p : Pair) (w : Word) (notWritten : r ∉ p.regs) :
    (s.setPair p w).getReg r = s.getReg r := by
  cases p with
  | bc | de | hl => exact getReg_setReg_setReg_of_notMem s r (hi8 w) (lo8 w) notWritten
  | sp => rfl

theorem Machine.getReg_setStackPair_of_notMem (p : StackPair) (w : Word) (notWritten : r ∉ p.regs) :
    (s.setStackPair p w).getReg r = s.getReg r := by
  cases p with
  | bc => exact getReg_setPair_of_notMem s r .bc w notWritten
  | de => exact getReg_setPair_of_notMem s r .de w notWritten
  | hl => exact getReg_setPair_of_notMem s r .hl w notWritten

/-- Of the operations only the compare leaves A (R108). -/
theorem Machine.getReg_aluApply_of_notMem (op : AluOp) (v : Byte)
    (notWritten : r ∉ if op = .cmp then [] else [Reg.a]) :
    (s.aluApply op v).getReg r = s.getReg r := by
  cases r
  case a =>
    cases op
    case cmp => rfl
    all_goals exact absurd (by decide) notWritten
  all_goals rfl

/-- The seven registers answer for every `getReg`. -/
theorem Machine.getReg_of_same {s t : State}
    (same : t.a = s.a ∧ t.b = s.b ∧ t.c = s.c ∧ t.d = s.d ∧ t.e = s.e ∧ t.h = s.h ∧ t.l = s.l) :
    t.getReg r = s.getReg r := by
  cases r <;> simp [State.getReg, same]

end

theorem Form.after_getReg (r : Reg) (notWritten : r ∉ f.regsWritten) :
    (f.after s).getReg r = s.getReg r := by
  cases f
  case movRR | movRM | mviR | inrR | dcrR =>
    simp only [Form.after_movRR, Form.after_movRM, Form.after_mviR, Form.after_inrR, Form.after_dcrR]
    exact getReg_setReg_of_notMem _ r _ notWritten
  case lxi p _ | inx p | dcx p => exact getReg_setPair_of_notMem s r p _ notWritten
  case pop p =>
    rw [Form.after_pop]
    exact getReg_setStackPair_of_notMem s.pop.2 r p _ notWritten
  case aluR op _ | aluI op _ => exact getReg_aluApply_of_notMem s r op _ notWritten
  case aluM op => exact getReg_aluApply_of_notMem (s.observe _ _) r op _ notWritten
  case lda | ldax | daa | rlc | rrc | ral | rar | cma | popPsw | inPort =>
    cases r
    case a => exact absurd (List.mem_singleton.mpr rfl) notWritten
    all_goals simp [State.getReg]
  case lhld | dad | xthl =>
    cases r
    case h | l => simp [Form.regsWritten] at notWritten
    all_goals simp [State.getReg]
  case xchg =>
    cases r
    case d | e | h | l => simp [Form.regsWritten] at notWritten
    all_goals simp [State.getReg]
  case undef u =>
    obtain ⟨p, q, x, v, m, k, frame⟩ := Form.after_undef_frame s u
    rw [frame]
    rfl
  case ccc | rcc =>
    simp only [Form.after_ccc, Form.after_rcc]
    split <;> exact getReg_of_same r (by simp)
  all_goals exact getReg_of_same r (by simp)

theorem Machine.setPair_sp {p : Pair} (w : Word) (notSp : (p == .sp) = false) : (s.setPair p w).sp = s.sp := by
  cases p
  case sp => cases notSp
  all_goals rfl

theorem Form.after_sp (notWritten : f.spWritten = false) : (f.after s).sp = s.sp := by
  cases f
  case lxi p _ | inx p | dcx p => exact setPair_sp s _ notWritten
  case call | ccc | ret | rcc | rst | push | pushPsw | pop | popPsw | sphl | undef => cases notWritten
  all_goals simp

/-- Settles O51: by the rules, each of which writes its destinations and the stack pointer as its operation does. -/
theorem registerFrame : Obligations.RegisterFrame := by
  unfold Obligations.RegisterFrame
  exact fun f s => ⟨_, exec_eq_after f s, Form.after_getReg f s, Form.after_sp f s⟩

end Sys2Proof
end

section
/-! The outcome of a step (10_state.md R38, 60_exceptions.md R250 to R261, 70_reset_and_hazards.md R287 to R289): when it stops, when it faults, and the control invariant. -/

namespace Sys2Proof

open Machine

/-! ### Stopped, halted and running states (R287 to R289) -/

section

variable {s : State}

theorem Machine.step_of_faultMark {u : UndefinedOpcode} (mark : s.faultMark = some u) :
    step s = .fault (.stopped u.addr u.opcode) := by
  simp only [step, mark]

theorem Machine.step_of_halted (noFault : s.faultMark = none) (halted : s.halted = true) : step s = .next s := by
  simp only [step, noFault, halted, if_true]

theorem Machine.step_of_running_after (running : s.Running) :
    step s = .next (s.fetchInstr.1.form.after s.fetchInstr.2) := by
  obtain ⟨noFault, notHalted⟩ := running
  rw [step_of_running s noFault notHalted, exec_eq_run, Form.run_eq_after]

theorem Machine.exists_step_next (noFault : s.faultMark = none) : ∃ t, step s = .next t := by
  cases halted : s.halted with
  | true => exact ⟨s, step_of_halted noFault halted⟩
  | false => exact ⟨_, step_of_running_after ⟨noFault, halted⟩⟩

/-- The report of a step that takes a next state. -/
theorem Machine.stepReport_of_next {t : State} (h : step s = .next t) :
    s.stepReport = if s.halted then .halted else if t.faultMark.isSome then .faulted else .ran := by
  simp only [State.stepReport, h]

end

/-- Settles O42: every row runs its rule's operation, which always takes a next state. -/
theorem everyInstructionTakesANextState : Obligations.EveryInstructionTakesANextState := by
  unfold Obligations.EveryInstructionTakesANextState
  intro i s
  rw [← i.instr_form]
  exact ⟨_, exec_eq_after i.form s⟩

/-- Settles O43: by the two fields that a step looks at before it fetches. -/
theorem stepStopsExactlyWhenFaultIsSet : Obligations.StepStopsExactlyWhenFaultIsSet := by
  unfold Obligations.StepStopsExactlyWhenFaultIsSet
  refine fun s => ⟨fun u mark => ⟨step_of_faultMark mark, ?stopped⟩, exists_step_next,
    fun noFault halted => ⟨step_of_halted noFault halted, ?halted⟩⟩
  case stopped => simp only [State.stepReport, step_of_faultMark mark]
  case halted => rw [stepReport_of_next (step_of_halted noFault halted), if_pos halted]

theorem Machine.runEnd_normal_iff (s : State) :
    s.runEnd = some .normal ↔ s.faultMark = none ∧ s.halted = true := by
  cases mark : s.faultMark <;> cases halted : s.halted <;> simp [State.runEnd, mark, halted]

theorem Machine.runEnd_of_faultMark {s : State} {u : UndefinedOpcode} (mark : s.faultMark = some u) :
    s.runEnd = some .abnormal := by
  simp [State.runEnd, mark]

theorem run_succ_of_next {s t : State} (h : step s = .next t) (k : Nat) :
    Host.Core.run Sys2Proof.core (k + 1) s = Host.Core.run Sys2Proof.core k t := by
  simp only [Host.Core.run, Sys2Proof.core, h]

theorem run_succ_of_fault {s : State} {r : Fault} (h : step s = .fault r) (k : Nat) :
    Host.Core.run Sys2Proof.core (k + 1) s = .fault r := by
  simp only [Host.Core.run, Sys2Proof.core, h]

/-- A state that steps to itself is where any number of steps ends. -/
theorem run_of_fixedPoint {s : State} (fixed : step s = .next s) (k : Nat) :
    Host.Core.run Sys2Proof.core k s = .next s := by
  induction k with
  | zero => rfl
  | succ k ih => rw [run_succ_of_next fixed, ih]

/-- Settles O45: a halted state is its own next state, and a faulted state has none. -/
theorem endedRunsStayEnded : Obligations.EndedRunsStayEnded := by
  unfold Obligations.EndedRunsStayEnded
  refine fun s k => ⟨fun normal => ?normal, fun u mark => ⟨runEnd_of_faultMark mark, ?abnormal⟩⟩
  case normal =>
    obtain ⟨noFault, halted⟩ := (runEnd_normal_iff s).mp normal
    exact run_of_fixedPoint (step_of_halted noFault halted) k
  case abnormal => exact run_succ_of_fault (step_of_faultMark mark) k

/-! ### The fetched instruction -/

/-- The fetched instruction is encoded with the byte at PC first. -/
theorem Machine.encode_fetchInstr (s : State) : ∃ tail, encode s.fetchInstr.1 = s.byteAt s.pc :: tail := by
  cases format : decodeOpcode (s.byteAt s.pc) with
  | op f => rw [fetchInstr_of_op s f format]; exact ⟨_, encode_of_op format⟩
  | opD8 f => rw [fetchInstr_of_opD8 s f format]; exact ⟨_, encode_of_opD8 format _⟩
  | opA16 f => rw [fetchInstr_of_opA16 s f format]; exact ⟨_, encode_of_opA16 format _⟩

/-- The byte at PC is the opcode of the fetched rule. -/
theorem Machine.byteAt_pc_of_fetchInstr {s : State} {f : Form} {op : Byte} {tail : List Byte}
    (fetched : s.fetchInstr.1.form = f) (encoded : encode f.instr = op :: tail) : s.byteAt s.pc = op := by
  obtain ⟨_, bytes⟩ := encode_fetchInstr s
  rw [← s.fetchInstr.1.instr_form, fetched, encoded] at bytes
  exact (List.cons.inj bytes).1.symm

theorem Machine.fetchInstr_form_undef_iff (s : State) (u : UndefOp) :
    s.fetchInstr.1.form = .undef u ↔ s.byteAt s.pc = u.byte := by
  constructor
  · exact fun fetched => byteAt_pc_of_fetchInstr fetched (encode_undef u)
  · intro byte
    rw [fetchInstr_of_op s (.undef u) (byte ▸ decodeOpcode_undefOp u), Form.form_instr]

/-! ### Faults (R252) -/

section

variable {s : State} (running : s.Running)

include running

/-- The opcode fetch has moved PC past the opcode, whose address the mark takes as PC - 1. -/
theorem Machine.step_of_undefined {u : UndefOp} (policy : s.cfg.undefPolicy = .fault)
    (byte : s.byteAt s.pc = u.byte) :
    step s =
      .next { s with
              pc := s.pc + 1, ir := u.byte, ab := s.pc, db := u.byte
              faultMark := some { addr := s.pc, opcode := u.byte } } := by
  have address : s.pc + 1 - 1 = s.pc := by bv_omega
  have fetched := fetchInstr_of_op s (.undef u) (byte ▸ decodeOpcode_undefOp u)
  rw [fetchOpcode_state, byte] at fetched
  rw [step_of_running_after running, fetched, Form.form_instr, Form.after_undef_fault]
  · rw [State.raiseUndefined, address]
  · exact policy

/-- A step that meets no undefined value under the policy fault sets no mark, and halts on an HLT alone. -/
theorem Machine.step_of_not_undefined {t : State}
    (defined : ¬ (s.cfg.undefPolicy = .fault ∧ s.byteAt s.pc ∈ undefinedOpcodes)) (h : step s = .next t) :
    t.faultMark = none ∧ (t.halted = true → t.ir = 0x76) := by
  obtain ⟨noFault, notHalted⟩ := running
  obtain ⟨-, halted, -⟩ | ⟨-, -, rfl⟩ := step_next_cases s t h
  · rw [halted] at notHalted
    cases notHalted
  · obtain ⟨p, x, v, fetched⟩ := fetchInstr_frame s
    constructor
    · rw [Form.after_faultMark_kept, fetched]
      · exact noFault
      · rintro u undefined policy
        have byte := (fetchInstr_form_undef_iff s u).mp undefined
        rw [fetched] at policy
        exact defined ⟨policy, (mem_undefinedOpcodes_iff _).mpr ⟨u, byte.symm⟩⟩
    · rw [Form.after_halted, Form.after_ir]
      split
      case isTrue hlt =>
        rw [fetched]
        exact fun _ => byteAt_pc_of_fetchInstr hlt rfl
      case isFalse other =>
        rw [fetched, notHalted]
        exact nofun

/-- What a step of a running state does to FAULT. -/
theorem Machine.step_faultMark_isSome_iff {t : State} (h : step s = .next t) :
    t.faultMark.isSome = true ↔ s.cfg.undefPolicy = .fault ∧ s.byteAt s.pc ∈ undefinedOpcodes := by
  constructor
  · intro marked
    by_contra defined
    obtain ⟨noMark, -⟩ := step_of_not_undefined running defined h
    rw [noMark] at marked
    cases marked
  · rintro ⟨policy, listed⟩
    obtain ⟨u, byte⟩ := (mem_undefinedOpcodes_iff _).mp listed
    rw [step_of_undefined running policy byte.symm] at h
    cases h
    rfl

end

/-- Settles O36: by the step that meets the value. -/
theorem undefinedOpcodeSetsFault : Obligations.UndefinedOpcodeSetsFault := by
  unfold Obligations.UndefinedOpcodeSetsFault
  exact fun u s policy => ⟨encode_undef u, exec_eq_next_of_after (Form.after_undef_fault s u policy),
    fun running byte => step_of_undefined running policy byte⟩

/-- Settles O44: a running state's step reports by the mark it leaves. -/
theorem faultsExactlyOnUndefinedOpcodes : Obligations.FaultsExactlyOnUndefinedOpcodes := by
  unfold Obligations.FaultsExactlyOnUndefinedOpcodes
  intro s running
  obtain ⟨noFault, notHalted⟩ := running
  obtain ⟨t, h⟩ := exists_step_next noFault
  rw [← step_faultMark_isSome_iff ⟨noFault, notHalted⟩ h, stepReport_of_next h, notHalted]
  cases t.faultMark <;> simp

/-! ### The control invariant -/

/-- Settles O57: a step from a running state sets a mark with all that the invariant asks of it, or sets none and
halts only on the HLT that it fetched. -/
theorem stepKeepsTheControlInvariant : Obligations.StepKeepsTheControlInvariant := by
  unfold Obligations.StepKeepsTheControlInvariant
  intro s t invariant h
  obtain ⟨-, -, rfl⟩ | ⟨noFault, notHalted, -⟩ := step_next_cases s t h
  · exact invariant
  have running : s.Running := ⟨noFault, notHalted⟩
  by_cases undefined : s.cfg.undefPolicy = .fault ∧ s.byteAt s.pc ∈ undefinedOpcodes
  · obtain ⟨policy, listed⟩ := undefined
    obtain ⟨u, byte⟩ := (mem_undefinedOpcodes_iff _).mp listed
    rw [← byte] at listed
    rw [step_of_undefined running policy byte.symm] at h
    cases h
    refine ⟨fun _ _ => policy, ?opcode, ?pc, fun _ _ => notHalted, ?hlt⟩
    case opcode => rintro _ ⟨⟩; exact ⟨listed, rfl⟩
    case pc => rintro _ ⟨⟩; rfl
    case hlt => exact fun halted => absurd halted (notHalted ▸ Bool.false_ne_true)
  · obtain ⟨noMark, hlt⟩ := step_of_not_undefined running undefined h
    have unmarked (u) : t.faultMark ≠ some u := noMark ▸ nofun
    exact ⟨fun u mark => absurd mark (unmarked u), fun u mark => absurd mark (unmarked u),
      fun u mark => absurd mark (unmarked u), fun u mark => absurd mark (unmarked u), hlt⟩

end Sys2Proof
end

section
/-! The observables (10_state.md R33 to R37; 20_memory.md R57, R61, R73): what a rule shows on AB and DB, and that no rule reads AB, DB, IR or INTE. -/

namespace Sys2Proof

open Machine

/-! ### The last access of a rule -/

/-- Under `intel_alias` the last access is that of the alias, which the two address bytes of a JMP are too. -/
theorem Form.after_undef_lastAccess (u : UndefOp) (s : State) :
    (((Form.undef u).after s).ab, ((Form.undef u).after s).db) =
      ((Form.undef u).lastAccess s).getD (s.ab, s.db) := by
  cases policy : s.cfg.undefPolicy with
  | fault =>
    rw [Form.after_undef_fault s u policy]
    simp [Form.lastAccess, policy]
  | intelAlias =>
    rw [Form.after_undef_intel s u policy]
    cases u <;> simp [Form.lastAccess, policy, push_eq]

theorem Form.after_lastAccess (f : Form) (s : State) :
    ((f.after s).ab, (f.after s).db) = (f.lastAccess s).getD (s.ab, s.db) := by
  cases f
  case undef u => exact Form.after_undef_lastAccess u s
  case inrM | dcrM => simp [Form.lastAccess, inc8_res, dec8_res]
  case pushPsw => simp [Form.lastAccess, push_eq, State.psw]
  case ccc cond _ | rcc cond => cases taken : s.flags.holds cond <;> simp [Form.lastAccess, taken, push_eq]
  case push | call | rst => simp [Form.lastAccess, push_eq]
  all_goals simp [Form.lastAccess]

/-- Settles O53: the bus shows each access, and the last one stays. -/
theorem busObservablesShowTheLastAccess : Obligations.BusObservablesShowTheLastAccess := by
  unfold Obligations.BusObservablesShowTheLastAccess
  exact fun f s => ⟨_, exec_eq_after f s, Form.after_lastAccess f s⟩

/-! ### The fields that no rule reads -/

/-- The state with other values on the bus, in IR and in INTE. -/
def Machine.State.withUnread (s : State) (x : Word) (y z : Byte) (b : Bool) : State :=
  { s with ab := x, db := y, ir := z, inte := b }

section

variable (s : State) (x : Word) (y z : Byte) (b : Bool)

theorem Form.after_undef_withUnread (u : UndefOp) :
    ∃ x' y' z' b', (Form.undef u).after (s.withUnread x y z b) = ((Form.undef u).after s).withUnread x' y' z' b' := by
  cases policy : s.cfg.undefPolicy with
  | fault =>
    rw [Form.after_undef_fault s u policy, Form.after_undef_fault _ u (by exact policy)]
    exact ⟨_, _, _, _, rfl⟩
  | intelAlias =>
    rw [Form.after_undef_intel s u policy, Form.after_undef_intel (s.withUnread x y z b) u policy]
    cases u <;> exact ⟨_, _, _, _, rfl⟩

/-- The rules commute with a change of the fields that they do not read, up to the values of those fields. -/
theorem Form.after_withUnread (f : Form) :
    ∃ x' y' z' b', f.after (s.withUnread x y z b) = (f.after s).withUnread x' y' z' b' := by
  cases f
  case undef u => exact Form.after_undef_withUnread s x y z b u
  case movRR r _ | movRM r | mviR r _ | inrR r | dcrR r => cases r <;> exact ⟨_, _, _, _, rfl⟩
  case lxi p _ | inx p | dcx p => cases p <;> exact ⟨_, _, _, _, rfl⟩
  case pop p => cases p <;> exact ⟨_, _, _, _, rfl⟩
  case jcc =>
    rw [Form.after_jcc, Form.after_jcc]
    exact ⟨_, _, _, _, rfl⟩
  case ccc cond _ | rcc cond =>
    simp only [Form.after_ccc, Form.after_rcc, show (s.withUnread x y z b).flags = s.flags from rfl]
    split <;> exact ⟨_, _, _, _, rfl⟩
  all_goals exact ⟨_, _, _, _, rfl⟩

theorem Form.lastAccess_withUnread (f : Form) : f.lastAccess (s.withUnread x y z b) = f.lastAccess s := by
  cases f <;> rfl

/-- The same with the values of those fields: the bus as after any rule, IR kept, INTE as after any rule. -/
theorem Form.after_withUnread_eq (f : Form) :
    f.after (s.withUnread x y z b) =
      (f.after s).withUnread ((f.lastAccess s).getD (x, y)).1 ((f.lastAccess s).getD (x, y)).2 z
        (if f = .ei then true else if f = .di then false else b) := by
  obtain ⟨x', y', z', b', commutes⟩ := Form.after_withUnread s x y z b f
  have bus := Form.after_lastAccess f (s.withUnread x y z b)
  have ir := Form.after_ir f (s.withUnread x y z b)
  have inte := Form.after_inte f (s.withUnread x y z b)
  rw [Form.lastAccess_withUnread, commutes] at bus
  rw [commutes] at ir inte
  simp only [State.withUnread] at bus ir inte
  rw [commutes, ← bus, ir, inte]

/-- The fetch writes AB, DB and IR before anything reads them. -/
theorem Machine.fetchInstr_withUnread : (s.withUnread x y z s.inte).fetchInstr = s.fetchInstr := by
  cases format : decodeOpcode (s.byteAt s.pc) with
  | op f => exact (fetchInstr_of_op _ f format).trans (fetchInstr_of_op s f format).symm
  | opD8 f => exact (fetchInstr_of_opD8 _ f format).trans (fetchInstr_of_opD8 s f format).symm
  | opA16 f => exact (fetchInstr_of_opA16 _ f format).trans (fetchInstr_of_opA16 s f format).symm

end

/-- Settles O54: the fetch overwrites the three fields, and each rule commutes with a change of them. -/
theorem noInstructionReadsTheObservables : Obligations.NoInstructionReadsTheObservables := by
  unfold Obligations.NoInstructionReadsTheObservables
  refine ⟨fun s x y z running => ?step, fun f s x y z => ?rule⟩
  case step =>
    have running' : (s.withUnread x y z s.inte).Running := running
    have fetched := step_of_running_after running'
    rw [fetchInstr_withUnread, ← step_of_running_after running] at fetched
    exact fetched
  case rule =>
    have commutes := Form.after_withUnread_eq s x y z s.inte f
    rw [← Form.after_inte] at commutes
    exact ⟨_, _, _, exec_eq_after f s, exec_eq_next_of_after commutes⟩

/-- Settles O55: a change of INTE alone leaves the bus and IR as they come out. -/
theorem noInstructionReadsInte : Obligations.NoInstructionReadsInte := by
  unfold Obligations.NoInstructionReadsInte
  refine fun f s b => ⟨_, exec_eq_after f s, exec_eq_next_of_after ?_⟩
  have commutes := Form.after_withUnread_eq s s.ab s.db s.ir b f
  rw [← Form.after_lastAccess] at commutes
  refine commutes.trans ?_
  rw [← Form.after_ir f s]
  rfl

end Sys2Proof
end

section
/-! The flags byte on the stack (10_state.md R27, R28), the decimal adjust of a sum (40_alu_flags.md R101, R110), the ports (20_memory.md R71, R72) and the machine-control instructions (45_stack_io_control.md R231, R233, R236 to R241). -/

namespace Sys2Proof.Machine

/-! ### The flags byte (R27, R28) -/

theorem toByte_toNat (f : Flags) :
    f.toByte.toNat =
      f.s.toNat * 128 + f.z.toNat * 64 + f.ac.toNat * 16 + f.p.toNat * 4 + 2 + f.cy.toNat := by
  have s := f.s.toNat_le
  have z := f.z.toNat_le
  have ac := f.ac.toNat_le
  have p := f.p.toNat_le
  have cy := f.cy.toNat_le
  rw [Flags.toByte, BitVec.toNat_ofNat]
  omega

@[simp] theorem ofByte_toByte (f : Flags) : Flags.ofByte f.toByte = f := by
  obtain ⟨s, z, ac, p, cy⟩ := f
  revert s z ac p cy
  decide

/-- The bits of F, bit 0 first: each is a flag or fixed. -/
theorem toByte_getLsbD (f : Flags) (i : Nat) (lt : i < 8) :
    f.toByte.getLsbD i = [f.cy, true, f.p, false, f.ac, false, f.z, f.s][i] := by
  obtain ⟨s, z, ac, p, cy⟩ := f
  revert i s z ac p cy
  decide

/-- Bit by bit: the mask keeps the five flags and clears bits 5 and 3, and bit 1 is set. -/
theorem toByte_ofByte (v : Byte) : (Flags.ofByte v).toByte = (v &&& 0xD7) ||| 0x02 := by
  apply BitVec.eq_of_getLsbD_eq
  intro i lt
  rw [toByte_getLsbD _ i lt, BitVec.getLsbD_or, BitVec.getLsbD_and]
  interval_cases i <;> simp [Flags.ofByte]

/-! ### The decimal adjust of a sum (R101, R110) -/

theorem daa_res_toNat (a : Byte) (ac cy : Bool) :
    (daa a ac cy).res.toNat =
      (a.toNat + ((if daaLow a ac then 0x06 else 0) + (if daaHigh a cy then 0x60 else 0))) % 256 := by
  rw [daa_eq_add8, add8_res_toNat]
  cases daaLow a ac <;> cases daaHigh a cy <;> simp

/-- A carry in already asks for the high correction. -/
theorem daa_cy (a : Byte) (ac cy : Bool) : (daa a ac cy).flags.cy = daaHigh a cy := by
  change (cy || daaHigh a cy) = daaHigh a cy
  cases cy <;> simp [daaHigh]

/-- A number below 100 as two decimal digits in the nibbles of a byte. -/
def packedDecimal (n : Nat) : Byte := BitVec.ofNat 8 (n / 10 * 16 + n % 10)

theorem packedDecimal_toNat {n : Nat} (lt : n < 100) : (packedDecimal n).toNat = n / 10 * 16 + n % 10 := by
  rw [packedDecimal, BitVec.toNat_ofNat]
  omega

/-- With tens that add up to `tens` and ones that add up to `ones`, the conditions of the high correction say
that the sum has a hundreds digit. -/
theorem highCorrection_iff {tens ones : Nat} (tensLe : tens ≤ 18) (onesLe : ones ≤ 18) :
    ((256 ≤ tens * 16 + ones ∨ 9 < (tens * 16 + ones) % 256 / 16) ∨
      9 ≤ (tens * 16 + ones) % 256 / 16 ∧ 9 < (tens * 16 + ones) % 256 % 16) ↔ 100 ≤ tens * 10 + ones := by
  by_cases carry : 256 ≤ tens * 16 + ones
  · simp only [carry, true_or, true_iff]
    omega
  · have high : (tens * 16 + ones) / 16 = tens + ones / 16 := by omega
    have low : (tens * 16 + ones) % 16 = ones % 16 := by omega
    rw [Nat.mod_eq_of_lt (not_le.mp carry), high, low]
    omega

section

variable {x y : Nat} (xlt : x < 100) (ylt : y < 100)

include xlt ylt

/-- The low correction is made exactly when the sum of the low digits carries. -/
theorem daaLow_add8_packedDecimal :
    daaLow (add8 (packedDecimal x) (packedDecimal y) false).res
      (add8 (packedDecimal x) (packedDecimal y) false).flags.ac = decide (10 ≤ x % 10 + y % 10) := by
  rw [daaLow_eq, add8_flags, flagsOf_ac, add8_res_toNat, packedDecimal_toNat xlt, packedDecimal_toNat ylt,
    ← Bool.decide_or, decide_eq_decide, Bool.toNat_false]
  omega

/-- The high correction is made exactly when the sum has a hundreds digit. -/
theorem daaHigh_add8_packedDecimal :
    daaHigh (add8 (packedDecimal x) (packedDecimal y) false).res
      (add8 (packedDecimal x) (packedDecimal y) false).flags.cy = decide (100 ≤ x + y) := by
  rw [daaHigh_eq, add8_flags, flagsOf_cy, add8_res_toNat, packedDecimal_toNat xlt, packedDecimal_toNat ylt,
    ← Bool.decide_and, ← Bool.decide_or, ← Bool.decide_or, decide_eq_decide, Bool.toNat_false]
  have digits : x / 10 * 16 + x % 10 + (y / 10 * 16 + y % 10) + 0 =
      (x / 10 + y / 10) * 16 + (x % 10 + y % 10) := by omega
  rw [digits, highCorrection_iff (by omega) (by omega)]
  omega

end

end Sys2Proof.Machine

namespace Sys2Proof

open Machine

/-- Settles O3: by the number that F is and by its bits. -/
theorem flagsByteKeepsFiveFlagsAndFixedBits : Obligations.FlagsByteKeepsFiveFlagsAndFixedBits := by
  unfold Obligations.FlagsByteKeepsFiveFlagsAndFixedBits
  exact ⟨fun f => ⟨toByte_toNat f, ofByte_toByte f⟩, toByte_ofByte⟩

/-- Settles O9: the corrections carry from the ones to the tens and from the tens to the hundreds. -/
theorem decimalAdjustAddsPackedDecimals : Obligations.DecimalAdjustAddsPackedDecimals := by
  unfold Obligations.DecimalAdjustAddsPackedDecimals
  intro ⟨x, xlt⟩ ⟨y, ylt⟩ bcd t
  have low : daaLow t.res t.flags.ac = decide (10 ≤ x % 10 + y % 10) := daaLow_add8_packedDecimal xlt ylt
  have high : daaHigh t.res t.flags.cy = decide (100 ≤ x + y) := daaHigh_add8_packedDecimal xlt ylt
  refine ⟨?sum, ?hundreds⟩
  case sum =>
    have binary : t.res.toNat = (x / 10 * 16 + x % 10 + (y / 10 * 16 + y % 10)) % 256 := by
      rw [add8_res_toNat, ← packedDecimal_toNat xlt, ← packedDecimal_toNat ylt]
      rfl
    have decimal : (bcd ((x + y) % 100)).toNat = (x + y) % 100 / 10 * 16 + (x + y) % 100 % 10 :=
      packedDecimal_toNat (Nat.mod_lt _ (by decide))
    apply BitVec.eq_of_toNat_eq
    rw [daa_res_toNat, low, high, binary, decimal]
    simp only [decide_eq_true_eq]
    split <;> split <;> omega
  case hundreds => rw [daa_cy, high]

/-- Settles O32: the pushed word joins A and F, and the popped word splits into them again. -/
theorem pushPopPswMoveAccumulatorAndFlags : Obligations.PushPopPswMoveAccumulatorAndFlags := by
  unfold Obligations.PushPopPswMoveAccumulatorAndFlags
  refine fun s => ⟨rfl, ⟨_, exec_eq_after _ s, ?push⟩, rfl, ⟨_, exec_eq_after _ s, ?pop⟩⟩
  case push => rw [Form.after_pushPsw, State.psw, push_cat16]
  case pop =>
    rw [Form.after_popPsw, pop_val, State.setPsw, hi8_cat16, lo8_cat16]
    rfl

/-- Settles O35: each of the four writes at most its own field. -/
theorem eiDiHltAndNop : Obligations.EiDiHltAndNop := by
  unfold Obligations.EiDiHltAndNop
  exact fun s =>
    ⟨rfl, exec_eq_next_of_after (Form.after_ei s), rfl, exec_eq_next_of_after (Form.after_di s),
      rfl, exec_eq_next_of_after (Form.after_hlt s), rfl, exec_eq_next_of_after (Form.after_nop s)⟩

/-- Settles O34: an access to an unmapped port leaves no trace in what the handlers see. -/
theorem inAndOutUsePortSpace : Obligations.InAndOutUsePortSpace := by
  unfold Obligations.InAndOutUsePortSpace
  intro port s v
  refine ⟨rfl, exec_eq_next_of_after (Form.after_inPort s port), rfl,
    exec_eq_next_of_after (Form.after_outPort s port), ?seen, fun rest => ⟨?input, ?output⟩⟩
  case seen => exact (handlerHistory_snoc s.io _ 0).trans (by rw [Nat.zero_add]; rfl)
  case input =>
    split
    case isTrue mapped => rfl
    case isFalse unmapped => exact handlerHistory_drop s.io rest _ (by simpa [reaches, State.binding] using unmapped)
  case output =>
    split
    case isTrue mapped => rfl
    case isFalse unmapped => exact handlerHistory_drop s.io rest _ (by simpa [reaches, State.binding] using unmapped)

end Sys2Proof
end
